-- ==== Sys2Proof/Word.lean ====
section
/-! DEFINITION. The word types of the 78K0/Lx3 (R8): memory bytes and registers are 8 bits, addresses, register pairs,
PC and SP are 16 bits. Everything here is a synonym, so every `BitVec` lemma applies as it stands. -/

namespace Sys2Proof

/-- A memory byte, an 8-bit general register or an 8-bit special function register (R8). -/
abbrev Byte := BitVec 8

/-- A 16-bit address, register pair, program counter or stack pointer (R8). -/
abbrev Word := BitVec 16

/-- The number of a bit within a byte, 7 the most significant (R110, R285). -/
abbrev BitNo := Fin 8

/-- The high byte of a word (`xH` of R12). -/
def hi (w : Word) : Byte := w.extractLsb' 8 8

/-- The low byte of a word (`xL` of R12). -/
def lo (w : Word) : Byte := w.extractLsb' 0 8

/-- The word whose high byte is `h` and whose low byte is `l` (the concatenation of R15). -/
def join (h l : Byte) : Word := h ++ l

/-- Zero extension of a byte to a word (`zext_16` of R15). -/
def zext (b : Byte) : Word := b.zeroExtend 16

/-- Sign extension of a byte to a word (`sext_16` of R15, R126). -/
def sext (b : Byte) : Word := b.signExtend 16

end Sys2Proof
end

