-- ==== Sys2Proof/Syntax.lean ====
section
/-! DEFINITION. The instructions of the 78K/0 CPU: one constructor for each row of `spec/opcode_table.json`, in the
table's order. An operand byte stays the byte of the encoding (a saddr or sfr offset, a displacement); register codes
and bit numbers are decoded. -/

namespace Sys2Proof

/-- The eight general registers of a bank in the order of their codes R0 to R7 (R23, R170). -/
inductive Reg8 where
  | x | a | c | b | e | d | l | h
  deriving DecidableEq, Repr

/-- The four register pairs in the order of their codes RP0 to RP3 (R22, R170). -/
inductive RegPair where
  | ax | bc | de | hl
  deriving DecidableEq, Repr

/-- The eight operations of the 8-bit operation group in the order of their index k (R230). -/
inductive AluOp where
  | add | sub | addc | subc | cmp | and | or | xor
  deriving DecidableEq, Repr

/-- The instructions (R160, R183). Operands: `saddr` and `sfr` offset bytes (R133, R134), `imm` and `word` immediates,
`addr` a 16-bit address, `disp` the displacement byte of a branch (R126) or of [HL+byte] (R136), `bit` a bit number,
`page` and `low` the fields fa10-8 and fa7-0 of CALLF, `entry` the field ta4-0 of CALLT, `bank` the bank of SEL. -/
inductive Instr where
  -- 8-bit data transfer (R201 to R214)
  /-- `MOV r,#byte` (R201). -/
  | movRImm (r : Reg8) (imm : Byte)
  /-- `MOV saddr,#byte` (R202). -/
  | movSaddrImm (saddr : Byte) (imm : Byte)
  /-- `MOV sfr,#byte` (R203). -/
  | movSfrImm (sfr : Byte) (imm : Byte)
  /-- `MOV A,r` (R204). -/
  | movAR (r : Reg8)
  /-- `MOV r,A` (R204). -/
  | movRA (r : Reg8)
  /-- `MOV A,saddr` (R205). -/
  | movASaddr (saddr : Byte)
  /-- `MOV saddr,A` (R205). -/
  | movSaddrA (saddr : Byte)
  /-- `MOV A,sfr` (R206). -/
  | movASfr (sfr : Byte)
  /-- `MOV sfr,A` (R206). -/
  | movSfrA (sfr : Byte)
  /-- `MOV A,!addr16` (R207). -/
  | movAAddr16 (addr : Word)
  /-- `MOV !addr16,A` (R207). -/
  | movAddr16A (addr : Word)
  /-- `MOV PSW,#byte` (R208). -/
  | movPswImm (imm : Byte)
  /-- `MOV A,PSW` (R208). -/
  | movAPsw
  /-- `MOV PSW,A` (R208). -/
  | movPswA
  /-- `MOV A,[DE]` (R209). -/
  | movADe
  /-- `MOV [DE],A` (R209). -/
  | movDeA
  /-- `MOV A,[HL]` (R209). -/
  | movAHl
  /-- `MOV [HL],A` (R209). -/
  | movHlA
  /-- `MOV A,[HL+byte]` (R210). -/
  | movAHlByte (disp : Byte)
  /-- `MOV [HL+byte],A` (R210). -/
  | movHlByteA (disp : Byte)
  /-- `MOV A,[HL+B]` (R211). -/
  | movAHlB
  /-- `MOV [HL+B],A` (R211). -/
  | movHlBA
  /-- `MOV A,[HL+C]` (R211). -/
  | movAHlC
  /-- `MOV [HL+C],A` (R211). -/
  | movHlCA
  /-- `XCH A,r` (R212). -/
  | xchAR (r : Reg8)
  /-- `XCH A,saddr` (R213). -/
  | xchASaddr (saddr : Byte)
  /-- `XCH A,sfr` (R213). -/
  | xchASfr (sfr : Byte)
  /-- `XCH A,!addr16` (R213). -/
  | xchAAddr16 (addr : Word)
  /-- `XCH A,[DE]` (R214). -/
  | xchADe
  /-- `XCH A,[HL]` (R214). -/
  | xchAHl
  /-- `XCH A,[HL+byte]` (R214). -/
  | xchAHlByte (disp : Byte)
  /-- `XCH A,[HL+B]` (R214). -/
  | xchAHlB
  /-- `XCH A,[HL+C]` (R214). -/
  | xchAHlC
  -- 16-bit data transfer (R221 to R227)
  /-- `MOVW rp,#word` (R221). -/
  | movwRpImm (rp : RegPair) (word : Word)
  /-- `MOVW saddrp,#word` (R222). -/
  | movwSaddrpImm (saddr : Byte) (word : Word)
  /-- `MOVW sfrp,#word` (R222). -/
  | movwSfrpImm (sfr : Byte) (word : Word)
  /-- `MOVW AX,saddrp` (R223). -/
  | movwAxSaddrp (saddr : Byte)
  /-- `MOVW saddrp,AX` (R223). -/
  | movwSaddrpAx (saddr : Byte)
  /-- `MOVW AX,sfrp` (R224). -/
  | movwAxSfrp (sfr : Byte)
  /-- `MOVW sfrp,AX` (R224). -/
  | movwSfrpAx (sfr : Byte)
  /-- `MOVW AX,rp` (R225). -/
  | movwAxRp (rp : RegPair)
  /-- `MOVW rp,AX` (R225). -/
  | movwRpAx (rp : RegPair)
  /-- `MOVW AX,!addr16` (R226). -/
  | movwAxAddr16 (addr : Word)
  /-- `MOVW !addr16,AX` (R226). -/
  | movwAddr16Ax (addr : Word)
  /-- `XCHW AX,rp` (R227). -/
  | xchwAxRp (rp : RegPair)
  -- 8-bit operation (R230 to R239)
  /-- `ADD A,#byte` (R232). -/
  | addAImm (imm : Byte)
  /-- `ADD saddr,#byte` (R232). -/
  | addSaddrImm (saddr : Byte) (imm : Byte)
  /-- `ADD A,r` (R232). -/
  | addAR (r : Reg8)
  /-- `ADD r,A` (R232). -/
  | addRA (r : Reg8)
  /-- `ADD A,saddr` (R232). -/
  | addASaddr (saddr : Byte)
  /-- `ADD A,!addr16` (R232). -/
  | addAAddr16 (addr : Word)
  /-- `ADD A,[HL]` (R232). -/
  | addAHl
  /-- `ADD A,[HL+byte]` (R232). -/
  | addAHlByte (disp : Byte)
  /-- `ADD A,[HL+B]` (R232). -/
  | addAHlB
  /-- `ADD A,[HL+C]` (R232). -/
  | addAHlC
  /-- `ADDC A,#byte` (R233). -/
  | addcAImm (imm : Byte)
  /-- `ADDC saddr,#byte` (R233). -/
  | addcSaddrImm (saddr : Byte) (imm : Byte)
  /-- `ADDC A,r` (R233). -/
  | addcAR (r : Reg8)
  /-- `ADDC r,A` (R233). -/
  | addcRA (r : Reg8)
  /-- `ADDC A,saddr` (R233). -/
  | addcASaddr (saddr : Byte)
  /-- `ADDC A,!addr16` (R233). -/
  | addcAAddr16 (addr : Word)
  /-- `ADDC A,[HL]` (R233). -/
  | addcAHl
  /-- `ADDC A,[HL+byte]` (R233). -/
  | addcAHlByte (disp : Byte)
  /-- `ADDC A,[HL+B]` (R233). -/
  | addcAHlB
  /-- `ADDC A,[HL+C]` (R233). -/
  | addcAHlC
  /-- `SUB A,#byte` (R234). -/
  | subAImm (imm : Byte)
  /-- `SUB saddr,#byte` (R234). -/
  | subSaddrImm (saddr : Byte) (imm : Byte)
  /-- `SUB A,r` (R234). -/
  | subAR (r : Reg8)
  /-- `SUB r,A` (R234). -/
  | subRA (r : Reg8)
  /-- `SUB A,saddr` (R234). -/
  | subASaddr (saddr : Byte)
  /-- `SUB A,!addr16` (R234). -/
  | subAAddr16 (addr : Word)
  /-- `SUB A,[HL]` (R234). -/
  | subAHl
  /-- `SUB A,[HL+byte]` (R234). -/
  | subAHlByte (disp : Byte)
  /-- `SUB A,[HL+B]` (R234). -/
  | subAHlB
  /-- `SUB A,[HL+C]` (R234). -/
  | subAHlC
  /-- `SUBC A,#byte` (R235). -/
  | subcAImm (imm : Byte)
  /-- `SUBC saddr,#byte` (R235). -/
  | subcSaddrImm (saddr : Byte) (imm : Byte)
  /-- `SUBC A,r` (R235). -/
  | subcAR (r : Reg8)
  /-- `SUBC r,A` (R235). -/
  | subcRA (r : Reg8)
  /-- `SUBC A,saddr` (R235). -/
  | subcASaddr (saddr : Byte)
  /-- `SUBC A,!addr16` (R235). -/
  | subcAAddr16 (addr : Word)
  /-- `SUBC A,[HL]` (R235). -/
  | subcAHl
  /-- `SUBC A,[HL+byte]` (R235). -/
  | subcAHlByte (disp : Byte)
  /-- `SUBC A,[HL+B]` (R235). -/
  | subcAHlB
  /-- `SUBC A,[HL+C]` (R235). -/
  | subcAHlC
  /-- `AND A,#byte` (R236). -/
  | andAImm (imm : Byte)
  /-- `AND saddr,#byte` (R236). -/
  | andSaddrImm (saddr : Byte) (imm : Byte)
  /-- `AND A,r` (R236). -/
  | andAR (r : Reg8)
  /-- `AND r,A` (R236). -/
  | andRA (r : Reg8)
  /-- `AND A,saddr` (R236). -/
  | andASaddr (saddr : Byte)
  /-- `AND A,!addr16` (R236). -/
  | andAAddr16 (addr : Word)
  /-- `AND A,[HL]` (R236). -/
  | andAHl
  /-- `AND A,[HL+byte]` (R236). -/
  | andAHlByte (disp : Byte)
  /-- `AND A,[HL+B]` (R236). -/
  | andAHlB
  /-- `AND A,[HL+C]` (R236). -/
  | andAHlC
  /-- `OR A,#byte` (R237). -/
  | orAImm (imm : Byte)
  /-- `OR saddr,#byte` (R237). -/
  | orSaddrImm (saddr : Byte) (imm : Byte)
  /-- `OR A,r` (R237). -/
  | orAR (r : Reg8)
  /-- `OR r,A` (R237). -/
  | orRA (r : Reg8)
  /-- `OR A,saddr` (R237). -/
  | orASaddr (saddr : Byte)
  /-- `OR A,!addr16` (R237). -/
  | orAAddr16 (addr : Word)
  /-- `OR A,[HL]` (R237). -/
  | orAHl
  /-- `OR A,[HL+byte]` (R237). -/
  | orAHlByte (disp : Byte)
  /-- `OR A,[HL+B]` (R237). -/
  | orAHlB
  /-- `OR A,[HL+C]` (R237). -/
  | orAHlC
  /-- `XOR A,#byte` (R238). -/
  | xorAImm (imm : Byte)
  /-- `XOR saddr,#byte` (R238). -/
  | xorSaddrImm (saddr : Byte) (imm : Byte)
  /-- `XOR A,r` (R238). -/
  | xorAR (r : Reg8)
  /-- `XOR r,A` (R238). -/
  | xorRA (r : Reg8)
  /-- `XOR A,saddr` (R238). -/
  | xorASaddr (saddr : Byte)
  /-- `XOR A,!addr16` (R238). -/
  | xorAAddr16 (addr : Word)
  /-- `XOR A,[HL]` (R238). -/
  | xorAHl
  /-- `XOR A,[HL+byte]` (R238). -/
  | xorAHlByte (disp : Byte)
  /-- `XOR A,[HL+B]` (R238). -/
  | xorAHlB
  /-- `XOR A,[HL+C]` (R238). -/
  | xorAHlC
  /-- `CMP A,#byte` (R239). -/
  | cmpAImm (imm : Byte)
  /-- `CMP saddr,#byte` (R239). -/
  | cmpSaddrImm (saddr : Byte) (imm : Byte)
  /-- `CMP A,r` (R239). -/
  | cmpAR (r : Reg8)
  /-- `CMP r,A` (R239). -/
  | cmpRA (r : Reg8)
  /-- `CMP A,saddr` (R239). -/
  | cmpASaddr (saddr : Byte)
  /-- `CMP A,!addr16` (R239). -/
  | cmpAAddr16 (addr : Word)
  /-- `CMP A,[HL]` (R239). -/
  | cmpAHl
  /-- `CMP A,[HL+byte]` (R239). -/
  | cmpAHlByte (disp : Byte)
  /-- `CMP A,[HL+B]` (R239). -/
  | cmpAHlB
  /-- `CMP A,[HL+C]` (R239). -/
  | cmpAHlC
  -- 16-bit operation, multiply and divide, increment and decrement (R250 to R258)
  /-- `ADDW AX,#word` (R250). -/
  | addwAxImm (word : Word)
  /-- `SUBW AX,#word` (R251). -/
  | subwAxImm (word : Word)
  /-- `CMPW AX,#word` (R252). -/
  | cmpwAxImm (word : Word)
  /-- `MULU X` (R253). -/
  | mulu
  /-- `DIVUW C` (R254). -/
  | divuw
  /-- `INC r` (R255). -/
  | incR (r : Reg8)
  /-- `INC saddr` (R255). -/
  | incSaddr (saddr : Byte)
  /-- `DEC r` (R256). -/
  | decR (r : Reg8)
  /-- `DEC saddr` (R256). -/
  | decSaddr (saddr : Byte)
  /-- `INCW rp` (R257). -/
  | incwRp (rp : RegPair)
  /-- `DECW rp` (R258). -/
  | decwRp (rp : RegPair)
  -- rotate and BCD adjust (R270 to R277)
  /-- `ROR A,1` (R270). -/
  | rorA
  /-- `ROL A,1` (R271). -/
  | rolA
  /-- `RORC A,1` (R272). -/
  | rorcA
  /-- `ROLC A,1` (R273). -/
  | rolcA
  /-- `ROR4 [HL]` (R274). -/
  | ror4Hl
  /-- `ROL4 [HL]` (R275). -/
  | rol4Hl
  /-- `ADJBA` (R276). -/
  | adjba
  /-- `ADJBS` (R277). -/
  | adjbs
  -- bit manipulation (R286 to R295)
  /-- `MOV1 CY,saddr.bit` (R286). -/
  | mov1CySaddr (saddr : Byte) (bit : BitNo)
  /-- `MOV1 CY,sfr.bit` (R286). -/
  | mov1CySfr (sfr : Byte) (bit : BitNo)
  /-- `MOV1 CY,A.bit` (R286). -/
  | mov1CyA (bit : BitNo)
  /-- `MOV1 CY,PSW.bit` (R286). -/
  | mov1CyPsw (bit : BitNo)
  /-- `MOV1 CY,[HL].bit` (R286). -/
  | mov1CyHl (bit : BitNo)
  /-- `AND1 CY,saddr.bit` (R288). -/
  | and1CySaddr (saddr : Byte) (bit : BitNo)
  /-- `AND1 CY,sfr.bit` (R288). -/
  | and1CySfr (sfr : Byte) (bit : BitNo)
  /-- `AND1 CY,A.bit` (R288). -/
  | and1CyA (bit : BitNo)
  /-- `AND1 CY,PSW.bit` (R288). -/
  | and1CyPsw (bit : BitNo)
  /-- `AND1 CY,[HL].bit` (R288). -/
  | and1CyHl (bit : BitNo)
  /-- `OR1 CY,saddr.bit` (R289). -/
  | or1CySaddr (saddr : Byte) (bit : BitNo)
  /-- `OR1 CY,sfr.bit` (R289). -/
  | or1CySfr (sfr : Byte) (bit : BitNo)
  /-- `OR1 CY,A.bit` (R289). -/
  | or1CyA (bit : BitNo)
  /-- `OR1 CY,PSW.bit` (R289). -/
  | or1CyPsw (bit : BitNo)
  /-- `OR1 CY,[HL].bit` (R289). -/
  | or1CyHl (bit : BitNo)
  /-- `XOR1 CY,saddr.bit` (R290). -/
  | xor1CySaddr (saddr : Byte) (bit : BitNo)
  /-- `XOR1 CY,sfr.bit` (R290). -/
  | xor1CySfr (sfr : Byte) (bit : BitNo)
  /-- `XOR1 CY,A.bit` (R290). -/
  | xor1CyA (bit : BitNo)
  /-- `XOR1 CY,PSW.bit` (R290). -/
  | xor1CyPsw (bit : BitNo)
  /-- `XOR1 CY,[HL].bit` (R290). -/
  | xor1CyHl (bit : BitNo)
  /-- `MOV1 saddr.bit,CY` (R287). -/
  | mov1SaddrCy (saddr : Byte) (bit : BitNo)
  /-- `MOV1 sfr.bit,CY` (R287). -/
  | mov1SfrCy (sfr : Byte) (bit : BitNo)
  /-- `MOV1 A.bit,CY` (R287). -/
  | mov1ACy (bit : BitNo)
  /-- `MOV1 PSW.bit,CY` (R287). -/
  | mov1PswCy (bit : BitNo)
  /-- `MOV1 [HL].bit,CY` (R287). -/
  | mov1HlCy (bit : BitNo)
  /-- `SET1 saddr.bit` (R291). -/
  | set1Saddr (saddr : Byte) (bit : BitNo)
  /-- `SET1 sfr.bit` (R291). -/
  | set1Sfr (sfr : Byte) (bit : BitNo)
  /-- `SET1 A.bit` (R291). -/
  | set1A (bit : BitNo)
  /-- `SET1 PSW.bit` (R291). -/
  | set1Psw (bit : BitNo)
  /-- `SET1 [HL].bit` (R291). -/
  | set1Hl (bit : BitNo)
  /-- `CLR1 saddr.bit` (R292). -/
  | clr1Saddr (saddr : Byte) (bit : BitNo)
  /-- `CLR1 sfr.bit` (R292). -/
  | clr1Sfr (sfr : Byte) (bit : BitNo)
  /-- `CLR1 A.bit` (R292). -/
  | clr1A (bit : BitNo)
  /-- `CLR1 PSW.bit` (R292). -/
  | clr1Psw (bit : BitNo)
  /-- `CLR1 [HL].bit` (R292). -/
  | clr1Hl (bit : BitNo)
  /-- `SET1 CY` (R293). -/
  | set1Cy
  /-- `CLR1 CY` (R294). -/
  | clr1Cy
  /-- `NOT1 CY` (R295). -/
  | not1Cy
  -- call and return (R360 to R366)
  /-- `CALL !addr16` (R360). -/
  | call (addr : Word)
  /-- `CALLF !addr11` (R361). -/
  | callf (page : BitNo) (low : Byte)
  /-- `CALLT [addr5]` (R362). -/
  | callt (entry : Fin 32)
  /-- `BRK` (R363). -/
  | brk
  /-- `RET` (R364). -/
  | ret
  /-- `RETI` (R365). -/
  | reti
  /-- `RETB` (R366). -/
  | retb
  -- stack manipulation (R370 to R377)
  /-- `PUSH PSW` (R370). -/
  | pushPsw
  /-- `PUSH rp` (R371). -/
  | pushRp (rp : RegPair)
  /-- `POP PSW` (R372). -/
  | popPsw
  /-- `POP rp` (R373). -/
  | popRp (rp : RegPair)
  /-- `MOVW SP,#word` (R375). -/
  | movwSpImm (word : Word)
  /-- `MOVW SP,AX` (R376). -/
  | movwSpAx
  /-- `MOVW AX,SP` (R377). -/
  | movwAxSp
  -- branch (R380 to R390)
  /-- `BR !addr16` (R380). -/
  | brAddr16 (addr : Word)
  /-- `BR $addr16` (R381). -/
  | brRel (disp : Byte)
  /-- `BR AX` (R382). -/
  | brAx
  /-- `BC $addr16` (R383). -/
  | bcRel (disp : Byte)
  /-- `BNC $addr16` (R384). -/
  | bncRel (disp : Byte)
  /-- `BZ $addr16` (R385). -/
  | bzRel (disp : Byte)
  /-- `BNZ $addr16` (R386). -/
  | bnzRel (disp : Byte)
  /-- `BT saddr.bit,$addr16` (R387). -/
  | btSaddr (saddr : Byte) (bit : BitNo) (disp : Byte)
  /-- `BT sfr.bit,$addr16` (R387). -/
  | btSfr (sfr : Byte) (bit : BitNo) (disp : Byte)
  /-- `BT A.bit,$addr16` (R387). -/
  | btA (bit : BitNo) (disp : Byte)
  /-- `BT PSW.bit,$addr16` (R387). -/
  | btPsw (bit : BitNo) (disp : Byte)
  /-- `BT [HL].bit,$addr16` (R387). -/
  | btHl (bit : BitNo) (disp : Byte)
  /-- `BF saddr.bit,$addr16` (R388). -/
  | bfSaddr (saddr : Byte) (bit : BitNo) (disp : Byte)
  /-- `BF sfr.bit,$addr16` (R388). -/
  | bfSfr (sfr : Byte) (bit : BitNo) (disp : Byte)
  /-- `BF A.bit,$addr16` (R388). -/
  | bfA (bit : BitNo) (disp : Byte)
  /-- `BF PSW.bit,$addr16` (R388). -/
  | bfPsw (bit : BitNo) (disp : Byte)
  /-- `BF [HL].bit,$addr16` (R388). -/
  | bfHl (bit : BitNo) (disp : Byte)
  /-- `BTCLR saddr.bit,$addr16` (R389). -/
  | btclrSaddr (saddr : Byte) (bit : BitNo) (disp : Byte)
  /-- `BTCLR sfr.bit,$addr16` (R389). -/
  | btclrSfr (sfr : Byte) (bit : BitNo) (disp : Byte)
  /-- `BTCLR A.bit,$addr16` (R389). -/
  | btclrA (bit : BitNo) (disp : Byte)
  /-- `BTCLR PSW.bit,$addr16` (R389). -/
  | btclrPsw (bit : BitNo) (disp : Byte)
  /-- `BTCLR [HL].bit,$addr16` (R389). -/
  | btclrHl (bit : BitNo) (disp : Byte)
  /-- `DBNZ B,$addr16` (R390). -/
  | dbnzB (disp : Byte)
  /-- `DBNZ C,$addr16` (R390). -/
  | dbnzC (disp : Byte)
  /-- `DBNZ saddr,$addr16` (R390). -/
  | dbnzSaddr (saddr : Byte) (disp : Byte)
  -- CPU control (R392 to R397)
  /-- `SEL RBn` (R392). -/
  | sel (bank : Fin 4)
  /-- `NOP` (R393). -/
  | nop
  /-- `EI` (R394). -/
  | ei
  /-- `DI` (R395). -/
  | di
  /-- `HALT` (R396). -/
  | halt
  /-- `STOP` (R397). -/
  | stop
  deriving DecidableEq, Repr

end Sys2Proof
end

