-- ==== Sys2Proof/WellFormed.lean ====
section
/-! DEFINITION. Well-formed instructions: the constraints that `spec/opcode_table.json` puts on the operand fields. A
register code that is excluded names a code point of another instruction (R174, R177, R180); the offsets 1EH and 1CH
belong to the rows of PSW and SP and the bit 7 of PSW to EI and DI (R179); 16-bit operands are even (U5). -/

namespace Sys2Proof

/-- A saddr offset that does not name PSW (R179). -/
def saddrOk (s : Byte) : Bool := s != 0x1E#8

/-- An even 16-bit operand offset (U5, R111). -/
def evenByte (b : Byte) : Bool := !b.getLsbD 0

/-- An even address (U5, R111). -/
def evenWord (w : Word) : Bool := !w.getLsbD 0

/-- A saddrp offset: even and not that of SP (R179, U5). -/
def saddrpOk (s : Byte) : Bool := evenByte s && s != 0x1C#8

/-- The constraints of the opcode table on the operands of an instruction (R183). -/
def Instr.wf : Instr → Bool
  | .movRImm _ _ => true
  | .movSaddrImm saddr _ => saddrOk saddr
  | .movSfrImm _ _ => true
  | .movAR r => r != .a
  | .movRA r => r != .a
  | .movASaddr saddr => saddrOk saddr
  | .movSaddrA saddr => saddrOk saddr
  | .movASfr _ => true
  | .movSfrA _ => true
  | .movAAddr16 _ => true
  | .movAddr16A _ => true
  | .movPswImm _ => true
  | .movAPsw => true
  | .movPswA => true
  | .movADe => true
  | .movDeA => true
  | .movAHl => true
  | .movHlA => true
  | .movAHlByte _ => true
  | .movHlByteA _ => true
  | .movAHlB => true
  | .movHlBA => true
  | .movAHlC => true
  | .movHlCA => true
  | .xchAR r => r != .a
  | .xchASaddr _ => true
  | .xchASfr _ => true
  | .xchAAddr16 _ => true
  | .xchADe => true
  | .xchAHl => true
  | .xchAHlByte _ => true
  | .xchAHlB => true
  | .xchAHlC => true
  | .movwRpImm _ _ => true
  | .movwSaddrpImm saddr _ => saddrpOk saddr
  | .movwSfrpImm sfr _ => evenByte sfr
  | .movwAxSaddrp saddr => saddrpOk saddr
  | .movwSaddrpAx saddr => saddrpOk saddr
  | .movwAxSfrp sfr => evenByte sfr
  | .movwSfrpAx sfr => evenByte sfr
  | .movwAxRp rp => rp != .ax
  | .movwRpAx rp => rp != .ax
  | .movwAxAddr16 addr => evenWord addr
  | .movwAddr16Ax addr => evenWord addr
  | .xchwAxRp rp => rp != .ax
  | .addAImm _ => true
  | .addSaddrImm _ _ => true
  | .addAR r => r != .a
  | .addRA _ => true
  | .addASaddr _ => true
  | .addAAddr16 _ => true
  | .addAHl => true
  | .addAHlByte _ => true
  | .addAHlB => true
  | .addAHlC => true
  | .addcAImm _ => true
  | .addcSaddrImm _ _ => true
  | .addcAR r => r != .a
  | .addcRA _ => true
  | .addcASaddr _ => true
  | .addcAAddr16 _ => true
  | .addcAHl => true
  | .addcAHlByte _ => true
  | .addcAHlB => true
  | .addcAHlC => true
  | .subAImm _ => true
  | .subSaddrImm _ _ => true
  | .subAR r => r != .a
  | .subRA _ => true
  | .subASaddr _ => true
  | .subAAddr16 _ => true
  | .subAHl => true
  | .subAHlByte _ => true
  | .subAHlB => true
  | .subAHlC => true
  | .subcAImm _ => true
  | .subcSaddrImm _ _ => true
  | .subcAR r => r != .a
  | .subcRA _ => true
  | .subcASaddr _ => true
  | .subcAAddr16 _ => true
  | .subcAHl => true
  | .subcAHlByte _ => true
  | .subcAHlB => true
  | .subcAHlC => true
  | .andAImm _ => true
  | .andSaddrImm _ _ => true
  | .andAR r => r != .a
  | .andRA _ => true
  | .andASaddr _ => true
  | .andAAddr16 _ => true
  | .andAHl => true
  | .andAHlByte _ => true
  | .andAHlB => true
  | .andAHlC => true
  | .orAImm _ => true
  | .orSaddrImm _ _ => true
  | .orAR r => r != .a
  | .orRA _ => true
  | .orASaddr _ => true
  | .orAAddr16 _ => true
  | .orAHl => true
  | .orAHlByte _ => true
  | .orAHlB => true
  | .orAHlC => true
  | .xorAImm _ => true
  | .xorSaddrImm _ _ => true
  | .xorAR r => r != .a
  | .xorRA _ => true
  | .xorASaddr _ => true
  | .xorAAddr16 _ => true
  | .xorAHl => true
  | .xorAHlByte _ => true
  | .xorAHlB => true
  | .xorAHlC => true
  | .cmpAImm _ => true
  | .cmpSaddrImm _ _ => true
  | .cmpAR r => r != .a
  | .cmpRA _ => true
  | .cmpASaddr _ => true
  | .cmpAAddr16 _ => true
  | .cmpAHl => true
  | .cmpAHlByte _ => true
  | .cmpAHlB => true
  | .cmpAHlC => true
  | .addwAxImm _ => true
  | .subwAxImm _ => true
  | .cmpwAxImm _ => true
  | .mulu => true
  | .divuw => true
  | .incR _ => true
  | .incSaddr _ => true
  | .decR _ => true
  | .decSaddr _ => true
  | .incwRp _ => true
  | .decwRp _ => true
  | .rorA => true
  | .rolA => true
  | .rorcA => true
  | .rolcA => true
  | .ror4Hl => true
  | .rol4Hl => true
  | .adjba => true
  | .adjbs => true
  | .mov1CySaddr saddr _ => saddrOk saddr
  | .mov1CySfr _ _ => true
  | .mov1CyA _ => true
  | .mov1CyPsw _ => true
  | .mov1CyHl _ => true
  | .and1CySaddr saddr _ => saddrOk saddr
  | .and1CySfr _ _ => true
  | .and1CyA _ => true
  | .and1CyPsw _ => true
  | .and1CyHl _ => true
  | .or1CySaddr saddr _ => saddrOk saddr
  | .or1CySfr _ _ => true
  | .or1CyA _ => true
  | .or1CyPsw _ => true
  | .or1CyHl _ => true
  | .xor1CySaddr saddr _ => saddrOk saddr
  | .xor1CySfr _ _ => true
  | .xor1CyA _ => true
  | .xor1CyPsw _ => true
  | .xor1CyHl _ => true
  | .mov1SaddrCy saddr _ => saddrOk saddr
  | .mov1SfrCy _ _ => true
  | .mov1ACy _ => true
  | .mov1PswCy _ => true
  | .mov1HlCy _ => true
  | .set1Saddr saddr _ => saddrOk saddr
  | .set1Sfr _ _ => true
  | .set1A _ => true
  | .set1Psw bit => bit != 7
  | .set1Hl _ => true
  | .clr1Saddr saddr _ => saddrOk saddr
  | .clr1Sfr _ _ => true
  | .clr1A _ => true
  | .clr1Psw bit => bit != 7
  | .clr1Hl _ => true
  | .set1Cy => true
  | .clr1Cy => true
  | .not1Cy => true
  | .call _ => true
  | .callf _ _ => true
  | .callt _ => true
  | .brk => true
  | .ret => true
  | .reti => true
  | .retb => true
  | .pushPsw => true
  | .pushRp _ => true
  | .popPsw => true
  | .popRp _ => true
  | .movwSpImm _ => true
  | .movwSpAx => true
  | .movwAxSp => true
  | .brAddr16 _ => true
  | .brRel _ => true
  | .brAx => true
  | .bcRel _ => true
  | .bncRel _ => true
  | .bzRel _ => true
  | .bnzRel _ => true
  | .btSaddr saddr _ _ => saddrOk saddr
  | .btSfr _ _ _ => true
  | .btA _ _ => true
  | .btPsw _ _ => true
  | .btHl _ _ => true
  | .bfSaddr saddr _ _ => saddrOk saddr
  | .bfSfr _ _ _ => true
  | .bfA _ _ => true
  | .bfPsw _ _ => true
  | .bfHl _ _ => true
  | .btclrSaddr saddr _ _ => saddrOk saddr
  | .btclrSfr _ _ _ => true
  | .btclrA _ _ => true
  | .btclrPsw _ _ => true
  | .btclrHl _ _ => true
  | .dbnzB _ => true
  | .dbnzC _ => true
  | .dbnzSaddr _ _ => true
  | .sel _ => true
  | .nop => true
  | .ei => true
  | .di => true
  | .halt => true
  | .stop => true

end Sys2Proof
end

