-- ==== Sys2Proof/Decode.lean ====
section
/-! DEFINITION. The decoder, total on any list of bytes, and after it the encoder, both written from the opcode map of
R175 to R179. The map is the spec's general knowledge of the 78K/0 (PRESUMED, D1, log entry 1), not the source's. -/

namespace Sys2Proof

/-- Why bytes are not an instruction. -/
inductive DecodeError where
  /-- The bytes end inside the instruction (R161). -/
  | truncated
  /-- A first byte, or a second byte after 31H, 61H or 71H, that the maps leave unassigned (R180, U6). -/
  | unassigned
  /-- A 16-bit operand with an odd address or offset (R111, U5). -/
  | oddOperand
  deriving DecidableEq, Repr

/-- What decoding gives: the instruction and the bytes after it, or the reason there is none. -/
abbrev Decoded := Except DecodeError (Instr × List Byte)

/-! ### Register codes and field positions -/

/-- The register with code `n` (R170). -/
def Reg8.ofCode (n : Nat) : Reg8 :=
  match n with
  | 0 => .x | 1 => .a | 2 => .c | 3 => .b | 4 => .e | 5 => .d | 6 => .l | _ => .h

/-- The 3-bit register code (R170). -/
def Reg8.code : Reg8 → Byte
  | .x => 0 | .a => 1 | .c => 2 | .b => 3 | .e => 4 | .d => 5 | .l => 6 | .h => 7

/-- The register pair with code `n` (R170). -/
def RegPair.ofCode (n : Nat) : RegPair :=
  match n with
  | 0 => .ax | 1 => .bc | 2 => .de | _ => .hl

/-- The pair code at bits 2..1 of an opcode byte (R170). -/
def RegPair.field : RegPair → Byte
  | .ax => 0 | .bc => 2 | .de => 4 | .hl => 6

/-- A bit number, or fa10-8 of CALLF, at bits 6..4 of an opcode byte (R175). -/
def bitField (n : BitNo) : Byte := BitVec.ofNat 8 (16 * n.val)

/-- The field ta4-0 of CALLT at bits 5..1 (R171). -/
def entryField (n : Fin 32) : Byte := BitVec.ofNat 8 (2 * n.val)

/-- The bank number of SEL at bits 5 and 3 (R177, R392). -/
def bankField (n : Fin 4) : Byte := BitVec.ofNat 8 (32 * (n.val / 2) + 8 * (n.val % 2))

/-- The number in bits 6..4 of a byte. -/
def bitOf (row : Nat) : BitNo := ⟨row % 8, Nat.mod_lt _ (by decide)⟩

/-- The operation with index `k` (R230). -/
def AluOp.ofIndex (k : Nat) : AluOp :=
  match k with
  | 0 => .add | 1 => .sub | 2 => .addc | 3 => .subc | 4 => .cmp | 5 => .and | 6 => .or | _ => .xor

/-! ### Operand bytes (R173) -/

/-- An instruction with no further byte. -/
def take0 (i : Instr) (bs : List Byte) : Decoded := .ok (i, bs)

/-- An instruction with one further byte. -/
def take1 (f : Byte → Instr) : List Byte → Decoded
  | b :: bs => .ok (f b, bs)
  | [] => .error .truncated

/-- An instruction with two further bytes. -/
def take2 (f : Byte → Byte → Instr) : List Byte → Decoded
  | b :: c :: bs => .ok (f b c, bs)
  | _ => .error .truncated

/-- An instruction with three further bytes. -/
def take3 (f : Byte → Byte → Byte → Instr) : List Byte → Decoded
  | b :: c :: d :: bs => .ok (f b c d, bs)
  | _ => .error .truncated

/-- An instruction with a 16-bit immediate or address, low byte first. -/
def takeWord (f : Word → Instr) : List Byte → Decoded := take2 fun l h => f (join h l)

/-- The PSW form where the saddr offset is 1EH, else the saddr form (R179). -/
def pswOr (s : Byte) (psw saddr : Instr) : Instr := if s = 0x1E#8 then psw else saddr

/-- The SP form where the saddrp offset is 1CH, else the saddrp form (R179). -/
def spOr (s : Byte) (sp saddrp : Instr) : Instr := if s = 0x1C#8 then sp else saddrp

/-- The PSW.bit form of SET1 and CLR1, of which bit 7 is EI and DI (R179). -/
def pswBit7Or (n : BitNo) (bit7 other : Instr) : Instr := if n = 7 then bit7 else other

/-! ### The eight operations of R230 in their operand forms -/

/-- The form `A,#byte` of each operation. -/
def aluAImm : AluOp → Byte → Instr
  | .add => .addAImm
  | .sub => .subAImm
  | .addc => .addcAImm
  | .subc => .subcAImm
  | .cmp => .cmpAImm
  | .and => .andAImm
  | .or => .orAImm
  | .xor => .xorAImm

/-- The form `saddr,#byte` of each operation. -/
def aluSaddrImm : AluOp → Byte → Byte → Instr
  | .add => .addSaddrImm
  | .sub => .subSaddrImm
  | .addc => .addcSaddrImm
  | .subc => .subcSaddrImm
  | .cmp => .cmpSaddrImm
  | .and => .andSaddrImm
  | .or => .orSaddrImm
  | .xor => .xorSaddrImm

/-- The form `A,r` of each operation. -/
def aluAR : AluOp → Reg8 → Instr
  | .add => .addAR
  | .sub => .subAR
  | .addc => .addcAR
  | .subc => .subcAR
  | .cmp => .cmpAR
  | .and => .andAR
  | .or => .orAR
  | .xor => .xorAR

/-- The form `r,A` of each operation. -/
def aluRA : AluOp → Reg8 → Instr
  | .add => .addRA
  | .sub => .subRA
  | .addc => .addcRA
  | .subc => .subcRA
  | .cmp => .cmpRA
  | .and => .andRA
  | .or => .orRA
  | .xor => .xorRA

/-- The form `A,saddr` of each operation. -/
def aluASaddr : AluOp → Byte → Instr
  | .add => .addASaddr
  | .sub => .subASaddr
  | .addc => .addcASaddr
  | .subc => .subcASaddr
  | .cmp => .cmpASaddr
  | .and => .andASaddr
  | .or => .orASaddr
  | .xor => .xorASaddr

/-- The form `A,!addr16` of each operation. -/
def aluAAddr16 : AluOp → Word → Instr
  | .add => .addAAddr16
  | .sub => .subAAddr16
  | .addc => .addcAAddr16
  | .subc => .subcAAddr16
  | .cmp => .cmpAAddr16
  | .and => .andAAddr16
  | .or => .orAAddr16
  | .xor => .xorAAddr16

/-- The form `A,[HL]` of each operation. -/
def aluAHl : AluOp → Instr
  | .add => .addAHl
  | .sub => .subAHl
  | .addc => .addcAHl
  | .subc => .subcAHl
  | .cmp => .cmpAHl
  | .and => .andAHl
  | .or => .orAHl
  | .xor => .xorAHl

/-- The form `A,[HL+byte]` of each operation. -/
def aluAHlByte : AluOp → Byte → Instr
  | .add => .addAHlByte
  | .sub => .subAHlByte
  | .addc => .addcAHlByte
  | .subc => .subcAHlByte
  | .cmp => .cmpAHlByte
  | .and => .andAHlByte
  | .or => .orAHlByte
  | .xor => .xorAHlByte

/-- The form `A,[HL+B]` of each operation. -/
def aluAHlB : AluOp → Instr
  | .add => .addAHlB
  | .sub => .subAHlB
  | .addc => .addcAHlB
  | .subc => .subcAHlB
  | .cmp => .cmpAHlB
  | .and => .andAHlB
  | .or => .orAHlB
  | .xor => .xorAHlB

/-- The form `A,[HL+C]` of each operation. -/
def aluAHlC : AluOp → Instr
  | .add => .addAHlC
  | .sub => .subAHlC
  | .addc => .addcAHlC
  | .subc => .subcAHlC
  | .cmp => .cmpAHlC
  | .and => .andAHlC
  | .or => .orAHlC
  | .xor => .xorAHlC
/-! ### The opcode maps -/

/-- R175, rows 0 to 7, columns 8 to F: one column per operand form, the row being the operation, bit or page. -/
def decodeColumns (row col : Nat) (bs : List Byte) : Decoded :=
  let op := AluOp.ofIndex row
  let n := bitOf row
  match col with
  | 0x8 => takeWord (aluAAddr16 op) bs
  | 0x9 => take1 (aluAHlByte op) bs
  | 0xA => take1 (fun s => pswOr s (pswBit7Or n .ei (.set1Psw n)) (.set1Saddr s n)) bs
  | 0xB => take1 (fun s => pswOr s (pswBit7Or n .di (.clr1Psw n)) (.clr1Saddr s n)) bs
  | 0xC => take1 (.callf n) bs
  | 0xD => take1 (aluAImm op) bs
  | 0xE => take1 (fun s => aluASaddr op s) bs
  | _ => take0 (aluAHl op) bs

/-- R175, row 0, columns 0 to 7. -/
def decodeRow0 (col : Nat) (bs : List Byte) : Decoded :=
  match col with
  | 0 => take0 .nop bs
  | 1 => take0 .not1Cy bs
  | 2 => takeWord .movwAxAddr16 bs
  | 3 => takeWord .movwAddr16Ax bs
  | 4 => take2 .dbnzSaddr bs
  | 5 => take0 .xchADe bs
  | 7 => take0 .xchAHl bs
  | _ => .error .unassigned

/-- R175, row 1, columns 0 to 7. -/
def decodeRow1 (col : Nat) (bs : List Byte) : Decoded :=
  match col with
  | 0 => takeWord (.movwRpImm .ax) bs
  | 1 => take2 (fun s b => pswOr s (.movPswImm b) (.movSaddrImm s b)) bs
  | 2 => takeWord (.movwRpImm .bc) bs
  | 3 => take2 .movSfrImm bs
  | 4 => takeWord (.movwRpImm .de) bs
  | 6 => takeWord (.movwRpImm .hl) bs
  | _ => .error .unassigned

/-- R175, row 2, columns 0 to 7. -/
def decodeRow2 (col : Nat) (bs : List Byte) : Decoded :=
  match col with
  | 0 => take0 .set1Cy bs
  | 1 => take0 .clr1Cy bs
  | 2 => take0 .pushPsw bs
  | 3 => take0 .popPsw bs
  | 4 => take0 .rorA bs
  | 5 => take0 .rorcA bs
  | 6 => take0 .rolA bs
  | _ => take0 .rolcA bs

/-- R175, row 8. -/
def decodeRow8 (col : Nat) (bs : List Byte) : Decoded :=
  match col with
  | 0x0 => take0 (.incwRp .ax) bs
  | 0x1 => take1 .incSaddr bs
  | 0x2 => take0 (.incwRp .bc) bs
  | 0x3 => take1 .xchASaddr bs
  | 0x4 => take0 (.incwRp .de) bs
  | 0x5 => take0 .movADe bs
  | 0x6 => take0 (.incwRp .hl) bs
  | 0x7 => take0 .movAHl bs
  | 0x9 => take1 (fun s => spOr s .movwAxSp (.movwAxSaddrp s)) bs
  | 0xA => take1 .dbnzC bs
  | 0xB => take1 .dbnzB bs
  | 0xD => take1 .bcRel bs
  | 0xE => takeWord .movAAddr16 bs
  | _ => take0 .reti bs

/-- R175, row 9. -/
def decodeRow9 (col : Nat) (bs : List Byte) : Decoded :=
  match col with
  | 0x0 => take0 (.decwRp .ax) bs
  | 0x1 => take1 .decSaddr bs
  | 0x2 => take0 (.decwRp .bc) bs
  | 0x3 => take1 .xchASfr bs
  | 0x4 => take0 (.decwRp .de) bs
  | 0x5 => take0 .movDeA bs
  | 0x6 => take0 (.decwRp .hl) bs
  | 0x7 => take0 .movHlA bs
  | 0x9 => take1 (fun s => spOr s .movwSpAx (.movwSaddrpAx s)) bs
  | 0xA => takeWord .call bs
  | 0xB => takeWord .brAddr16 bs
  | 0xD => take1 .bncRel bs
  | 0xE => takeWord .movAddr16A bs
  | _ => take0 .retb bs

/-- R175, row A. -/
def decodeRowA (col : Nat) (bs : List Byte) : Decoded :=
  match col with
  | 0x9 => take1 .movwAxSfrp bs
  | 0xA => take0 .movAHlC bs
  | 0xB => take0 .movAHlB bs
  | 0xD => take1 .bzRel bs
  | 0xE => take1 .movAHlByte bs
  | 0xF => take0 .ret bs
  | _ => take1 (.movRImm (.ofCode col)) bs

/-- R175, row B. -/
def decodeRowB (col : Nat) (bs : List Byte) : Decoded :=
  match col with
  | 0x0 => take0 (.popRp .ax) bs
  | 0x1 => take0 (.pushRp .ax) bs
  | 0x2 => take0 (.popRp .bc) bs
  | 0x3 => take0 (.pushRp .bc) bs
  | 0x4 => take0 (.popRp .de) bs
  | 0x5 => take0 (.pushRp .de) bs
  | 0x6 => take0 (.popRp .hl) bs
  | 0x7 => take0 (.pushRp .hl) bs
  | 0x9 => take1 .movwSfrpAx bs
  | 0xA => take0 .movHlCA bs
  | 0xB => take0 .movHlBA bs
  | 0xD => take1 .bnzRel bs
  | 0xE => take1 .movHlByteA bs
  | _ => take0 .brk bs

/-- R175, rows C to F, even columns other than 8 and C. -/
def decodeRowsCF (row col : Nat) (bs : List Byte) : Decoded :=
  match row, col with
  | 0xC, 0x2 => take0 (.movwAxRp .bc) bs
  | 0xC, 0x4 => take0 (.movwAxRp .de) bs
  | 0xC, 0x6 => take0 (.movwAxRp .hl) bs
  | 0xC, 0xA => takeWord .addwAxImm bs
  | 0xC, 0xE => takeWord .xchAAddr16 bs
  | 0xD, 0x2 => take0 (.movwRpAx .bc) bs
  | 0xD, 0x4 => take0 (.movwRpAx .de) bs
  | 0xD, 0x6 => take0 (.movwRpAx .hl) bs
  | 0xD, 0xA => takeWord .subwAxImm bs
  | 0xD, 0xE => take1 .xchAHlByte bs
  | 0xE, 0x2 => take0 (.xchwAxRp .bc) bs
  | 0xE, 0x4 => take0 (.xchwAxRp .de) bs
  | 0xE, 0x6 => take0 (.xchwAxRp .hl) bs
  | 0xE, 0xA => takeWord .cmpwAxImm bs
  | 0xE, 0xE => take3 (fun s l h => spOr s (.movwSpImm (join h l)) (.movwSaddrpImm s (join h l))) bs
  | 0xF, 0x0 => take1 (fun s => pswOr s .movAPsw (.movASaddr s)) bs
  | 0xF, 0x2 => take1 (fun s => pswOr s .movPswA (.movSaddrA s)) bs
  | 0xF, 0x4 => take1 .movASfr bs
  | 0xF, 0x6 => take1 .movSfrA bs
  | 0xF, 0xA => take1 .brRel bs
  | 0xF, 0xE => take3 (fun s l h => .movwSfrpImm s (join h l)) bs
  | _, _ => .error .unassigned

/-- R176: the byte after the prefix 31H. -/
def decode31 (row col : Nat) (bs : List Byte) : Decoded :=
  let n := bitOf row
  if row < 8 then
    match col with
    | 0x1 => take2 (fun s j => pswOr s (.btclrPsw n j) (.btclrSaddr s n j)) bs
    | 0x3 => take2 (fun s j => pswOr s (.bfPsw n j) (.bfSaddr s n j)) bs
    | 0x5 => take2 (fun f j => .btclrSfr f n j) bs
    | 0x6 => take2 (fun f j => .btSfr f n j) bs
    | 0x7 => take2 (fun f j => .bfSfr f n j) bs
    | 0xA => take0 (aluAHlC (.ofIndex row)) bs
    | 0xB => take0 (aluAHlB (.ofIndex row)) bs
    | 0xD => take1 (.btclrA n) bs
    | 0xE => take1 (.btA n) bs
    | 0xF => take1 (.bfA n) bs
    | _ => .error .unassigned
  else
    match col with
    | 0x5 => take1 (.btclrHl n) bs
    | 0x6 => take1 (.btHl n) bs
    | 0x7 => take1 (.bfHl n) bs
    | _ =>
      match row, col with
      | 0x8, 0x0 => take0 .rol4Hl bs
      | 0x8, 0x2 => take0 .divuw bs
      | 0x8, 0x8 => take0 .mulu bs
      | 0x8, 0xA => take0 .xchAHlC bs
      | 0x8, 0xB => take0 .xchAHlB bs
      | 0x9, 0x0 => take0 .ror4Hl bs
      | 0x9, 0x8 => take0 .brAx bs
      | _, _ => .error .unassigned

/-- R177: the byte after the prefix 61H. -/
def decode61 (row col : Nat) (bs : List Byte) : Decoded :=
  let n := bitOf row
  if row < 8 then
    if col < 8 then take0 (aluRA (.ofIndex row) (.ofCode col)) bs
    else if col = 9 then .error .unassigned
    else take0 (aluAR (.ofIndex row) (.ofCode (col - 8))) bs
  else
    match col with
    | 0x9 => take0 (.mov1ACy n) bs
    | 0xA => take0 (.set1A n) bs
    | 0xB => take0 (.clr1A n) bs
    | 0xC => take0 (.mov1CyA n) bs
    | 0xD => take0 (.and1CyA n) bs
    | 0xE => take0 (.or1CyA n) bs
    | 0xF => take0 (.xor1CyA n) bs
    | _ =>
      match row, col with
      | 0x8, 0x0 => take0 .adjba bs
      | 0x9, 0x0 => take0 .adjbs bs
      | 0xD, 0x0 => take0 (.sel 0) bs
      | 0xD, 0x8 => take0 (.sel 1) bs
      | 0xF, 0x0 => take0 (.sel 2) bs
      | 0xF, 0x8 => take0 (.sel 3) bs
      | _, _ => .error .unassigned

/-- R178: the byte after the prefix 71H. -/
def decode71 (row col : Nat) (bs : List Byte) : Decoded :=
  let n := bitOf row
  if row < 8 then
    match col with
    | 0x0 =>
      match row with
      | 0 => take0 .stop bs
      | 1 => take0 .halt bs
      | _ => .error .unassigned
    | 0x1 => take1 (fun s => pswOr s (.mov1PswCy n) (.mov1SaddrCy s n)) bs
    | 0x4 => take1 (fun s => pswOr s (.mov1CyPsw n) (.mov1CySaddr s n)) bs
    | 0x5 => take1 (fun s => pswOr s (.and1CyPsw n) (.and1CySaddr s n)) bs
    | 0x6 => take1 (fun s => pswOr s (.or1CyPsw n) (.or1CySaddr s n)) bs
    | 0x7 => take1 (fun s => pswOr s (.xor1CyPsw n) (.xor1CySaddr s n)) bs
    | 0x9 => take1 (fun f => .mov1SfrCy f n) bs
    | 0xA => take1 (fun f => .set1Sfr f n) bs
    | 0xB => take1 (fun f => .clr1Sfr f n) bs
    | 0xC => take1 (fun f => .mov1CySfr f n) bs
    | 0xD => take1 (fun f => .and1CySfr f n) bs
    | 0xE => take1 (fun f => .or1CySfr f n) bs
    | 0xF => take1 (fun f => .xor1CySfr f n) bs
    | _ => .error .unassigned
  else
    match col with
    | 0x1 => take0 (.mov1HlCy n) bs
    | 0x2 => take0 (.set1Hl n) bs
    | 0x3 => take0 (.clr1Hl n) bs
    | 0x4 => take0 (.mov1CyHl n) bs
    | 0x5 => take0 (.and1CyHl n) bs
    | 0x6 => take0 (.or1CyHl n) bs
    | 0x7 => take0 (.xor1CyHl n) bs
    | _ => .error .unassigned

/-- A prefix byte and the second opcode byte (R174). -/
def decodeSecond (f : Nat → Nat → List Byte → Decoded) : List Byte → Decoded
  | b :: bs => f (b.toNat / 16) (b.toNat % 16) bs
  | [] => .error .truncated

/-- R175: the first byte, given by its row and column. Rows 3, 6 and 7 hold the register moves and the prefixes,
rows 4 and 5 INC and DEC, the odd columns of rows C to F are CALLT. -/
def decodeFirst (row col : Nat) (bs : List Byte) : Decoded :=
  if row < 8 then
    if 8 ≤ col then decodeColumns row col bs
    else
      match row with
      | 0 => decodeRow0 col bs
      | 1 => decodeRow1 col bs
      | 2 => decodeRow2 col bs
      | 3 => if col = 1 then decodeSecond decode31 bs else take0 (.xchAR (.ofCode col)) bs
      | 4 => take0 (.incR (.ofCode col)) bs
      | 5 => take0 (.decR (.ofCode col)) bs
      | 6 => if col = 1 then decodeSecond decode61 bs else take0 (.movAR (.ofCode col)) bs
      | _ => if col = 1 then decodeSecond decode71 bs else take0 (.movRA (.ofCode col)) bs
  else if col = 0x8 then take2 (fun s b => aluSaddrImm (.ofIndex (row - 8)) s b) bs
  else if col = 0xC then
    take2 (fun s j => pswOr s (.btPsw (bitOf row) j) (.btSaddr s (bitOf row) j)) bs
  else if row < 0xC then
    match row with
    | 0x8 => decodeRow8 col bs
    | 0x9 => decodeRow9 col bs
    | 0xA => decodeRowA col bs
    | _ => decodeRowB col bs
  else if col % 2 = 1 then
    take0 (.callt ⟨(16 * (row % 4) + col) / 2 % 32, Nat.mod_lt _ (by decide)⟩) bs
  else decodeRowsCF row col bs

/-- The 16-bit operands that must be even and are odd (R111, U5). -/
def Instr.hasOddOperand : Instr → Bool
  | .movwSaddrpImm s _ => !evenByte s
  | .movwSfrpImm s _ => !evenByte s
  | .movwAxSaddrp s => !evenByte s
  | .movwSaddrpAx s => !evenByte s
  | .movwAxSfrp s => !evenByte s
  | .movwSfrpAx s => !evenByte s
  | .movwAxAddr16 a => !evenWord a
  | .movwAddr16Ax a => !evenWord a
  | _ => false

/-- Refuse an odd 16-bit operand by name (U5). -/
def checkEven : Decoded → Decoded
  | .ok (i, bs) => if i.hasOddOperand then .error .oddOperand else .ok (i, bs)
  | .error e => .error e

/-- The decoding procedure of R181: the instruction at the head of the bytes and the bytes after it. -/
def decode : List Byte → Decoded
  | b :: bs => checkEven (decodeFirst (b.toNat / 16) (b.toNat % 16) bs)
  | [] => .error .truncated

/-! ### The encoder -/

/-- The bytes of an instruction in memory order, from the `encoding` column of the opcode table (R183). -/
def encode : Instr → List Byte
  | .movRImm r imm => [0xA0#8 ||| r.code, imm]
  | .movSaddrImm saddr imm => [0x11#8, saddr, imm]
  | .movSfrImm sfr imm => [0x13#8, sfr, imm]
  | .movAR r => [0x60#8 ||| r.code]
  | .movRA r => [0x70#8 ||| r.code]
  | .movASaddr saddr => [0xF0#8, saddr]
  | .movSaddrA saddr => [0xF2#8, saddr]
  | .movASfr sfr => [0xF4#8, sfr]
  | .movSfrA sfr => [0xF6#8, sfr]
  | .movAAddr16 addr => [0x8E#8, lo addr, hi addr]
  | .movAddr16A addr => [0x9E#8, lo addr, hi addr]
  | .movPswImm imm => [0x11#8, 0x1E#8, imm]
  | .movAPsw => [0xF0#8, 0x1E#8]
  | .movPswA => [0xF2#8, 0x1E#8]
  | .movADe => [0x85#8]
  | .movDeA => [0x95#8]
  | .movAHl => [0x87#8]
  | .movHlA => [0x97#8]
  | .movAHlByte disp => [0xAE#8, disp]
  | .movHlByteA disp => [0xBE#8, disp]
  | .movAHlB => [0xAB#8]
  | .movHlBA => [0xBB#8]
  | .movAHlC => [0xAA#8]
  | .movHlCA => [0xBA#8]
  | .xchAR r => [0x30#8 ||| r.code]
  | .xchASaddr saddr => [0x83#8, saddr]
  | .xchASfr sfr => [0x93#8, sfr]
  | .xchAAddr16 addr => [0xCE#8, lo addr, hi addr]
  | .xchADe => [0x05#8]
  | .xchAHl => [0x07#8]
  | .xchAHlByte disp => [0xDE#8, disp]
  | .xchAHlB => [0x31#8, 0x8B#8]
  | .xchAHlC => [0x31#8, 0x8A#8]
  | .movwRpImm rp word => [0x10#8 ||| rp.field, lo word, hi word]
  | .movwSaddrpImm saddr word => [0xEE#8, saddr, lo word, hi word]
  | .movwSfrpImm sfr word => [0xFE#8, sfr, lo word, hi word]
  | .movwAxSaddrp saddr => [0x89#8, saddr]
  | .movwSaddrpAx saddr => [0x99#8, saddr]
  | .movwAxSfrp sfr => [0xA9#8, sfr]
  | .movwSfrpAx sfr => [0xB9#8, sfr]
  | .movwAxRp rp => [0xC0#8 ||| rp.field]
  | .movwRpAx rp => [0xD0#8 ||| rp.field]
  | .movwAxAddr16 addr => [0x02#8, lo addr, hi addr]
  | .movwAddr16Ax addr => [0x03#8, lo addr, hi addr]
  | .xchwAxRp rp => [0xE0#8 ||| rp.field]
  | .addAImm imm => [0x0D#8, imm]
  | .addSaddrImm saddr imm => [0x88#8, saddr, imm]
  | .addAR r => [0x61#8, 0x08#8 ||| r.code]
  | .addRA r => [0x61#8, 0x00#8 ||| r.code]
  | .addASaddr saddr => [0x0E#8, saddr]
  | .addAAddr16 addr => [0x08#8, lo addr, hi addr]
  | .addAHl => [0x0F#8]
  | .addAHlByte disp => [0x09#8, disp]
  | .addAHlB => [0x31#8, 0x0B#8]
  | .addAHlC => [0x31#8, 0x0A#8]
  | .addcAImm imm => [0x2D#8, imm]
  | .addcSaddrImm saddr imm => [0xA8#8, saddr, imm]
  | .addcAR r => [0x61#8, 0x28#8 ||| r.code]
  | .addcRA r => [0x61#8, 0x20#8 ||| r.code]
  | .addcASaddr saddr => [0x2E#8, saddr]
  | .addcAAddr16 addr => [0x28#8, lo addr, hi addr]
  | .addcAHl => [0x2F#8]
  | .addcAHlByte disp => [0x29#8, disp]
  | .addcAHlB => [0x31#8, 0x2B#8]
  | .addcAHlC => [0x31#8, 0x2A#8]
  | .subAImm imm => [0x1D#8, imm]
  | .subSaddrImm saddr imm => [0x98#8, saddr, imm]
  | .subAR r => [0x61#8, 0x18#8 ||| r.code]
  | .subRA r => [0x61#8, 0x10#8 ||| r.code]
  | .subASaddr saddr => [0x1E#8, saddr]
  | .subAAddr16 addr => [0x18#8, lo addr, hi addr]
  | .subAHl => [0x1F#8]
  | .subAHlByte disp => [0x19#8, disp]
  | .subAHlB => [0x31#8, 0x1B#8]
  | .subAHlC => [0x31#8, 0x1A#8]
  | .subcAImm imm => [0x3D#8, imm]
  | .subcSaddrImm saddr imm => [0xB8#8, saddr, imm]
  | .subcAR r => [0x61#8, 0x38#8 ||| r.code]
  | .subcRA r => [0x61#8, 0x30#8 ||| r.code]
  | .subcASaddr saddr => [0x3E#8, saddr]
  | .subcAAddr16 addr => [0x38#8, lo addr, hi addr]
  | .subcAHl => [0x3F#8]
  | .subcAHlByte disp => [0x39#8, disp]
  | .subcAHlB => [0x31#8, 0x3B#8]
  | .subcAHlC => [0x31#8, 0x3A#8]
  | .andAImm imm => [0x5D#8, imm]
  | .andSaddrImm saddr imm => [0xD8#8, saddr, imm]
  | .andAR r => [0x61#8, 0x58#8 ||| r.code]
  | .andRA r => [0x61#8, 0x50#8 ||| r.code]
  | .andASaddr saddr => [0x5E#8, saddr]
  | .andAAddr16 addr => [0x58#8, lo addr, hi addr]
  | .andAHl => [0x5F#8]
  | .andAHlByte disp => [0x59#8, disp]
  | .andAHlB => [0x31#8, 0x5B#8]
  | .andAHlC => [0x31#8, 0x5A#8]
  | .orAImm imm => [0x6D#8, imm]
  | .orSaddrImm saddr imm => [0xE8#8, saddr, imm]
  | .orAR r => [0x61#8, 0x68#8 ||| r.code]
  | .orRA r => [0x61#8, 0x60#8 ||| r.code]
  | .orASaddr saddr => [0x6E#8, saddr]
  | .orAAddr16 addr => [0x68#8, lo addr, hi addr]
  | .orAHl => [0x6F#8]
  | .orAHlByte disp => [0x69#8, disp]
  | .orAHlB => [0x31#8, 0x6B#8]
  | .orAHlC => [0x31#8, 0x6A#8]
  | .xorAImm imm => [0x7D#8, imm]
  | .xorSaddrImm saddr imm => [0xF8#8, saddr, imm]
  | .xorAR r => [0x61#8, 0x78#8 ||| r.code]
  | .xorRA r => [0x61#8, 0x70#8 ||| r.code]
  | .xorASaddr saddr => [0x7E#8, saddr]
  | .xorAAddr16 addr => [0x78#8, lo addr, hi addr]
  | .xorAHl => [0x7F#8]
  | .xorAHlByte disp => [0x79#8, disp]
  | .xorAHlB => [0x31#8, 0x7B#8]
  | .xorAHlC => [0x31#8, 0x7A#8]
  | .cmpAImm imm => [0x4D#8, imm]
  | .cmpSaddrImm saddr imm => [0xC8#8, saddr, imm]
  | .cmpAR r => [0x61#8, 0x48#8 ||| r.code]
  | .cmpRA r => [0x61#8, 0x40#8 ||| r.code]
  | .cmpASaddr saddr => [0x4E#8, saddr]
  | .cmpAAddr16 addr => [0x48#8, lo addr, hi addr]
  | .cmpAHl => [0x4F#8]
  | .cmpAHlByte disp => [0x49#8, disp]
  | .cmpAHlB => [0x31#8, 0x4B#8]
  | .cmpAHlC => [0x31#8, 0x4A#8]
  | .addwAxImm word => [0xCA#8, lo word, hi word]
  | .subwAxImm word => [0xDA#8, lo word, hi word]
  | .cmpwAxImm word => [0xEA#8, lo word, hi word]
  | .mulu => [0x31#8, 0x88#8]
  | .divuw => [0x31#8, 0x82#8]
  | .incR r => [0x40#8 ||| r.code]
  | .incSaddr saddr => [0x81#8, saddr]
  | .decR r => [0x50#8 ||| r.code]
  | .decSaddr saddr => [0x91#8, saddr]
  | .incwRp rp => [0x80#8 ||| rp.field]
  | .decwRp rp => [0x90#8 ||| rp.field]
  | .rorA => [0x24#8]
  | .rolA => [0x26#8]
  | .rorcA => [0x25#8]
  | .rolcA => [0x27#8]
  | .ror4Hl => [0x31#8, 0x90#8]
  | .rol4Hl => [0x31#8, 0x80#8]
  | .adjba => [0x61#8, 0x80#8]
  | .adjbs => [0x61#8, 0x90#8]
  | .mov1CySaddr saddr bit => [0x71#8, 0x04#8 ||| bitField bit, saddr]
  | .mov1CySfr sfr bit => [0x71#8, 0x0C#8 ||| bitField bit, sfr]
  | .mov1CyA bit => [0x61#8, 0x8C#8 ||| bitField bit]
  | .mov1CyPsw bit => [0x71#8, 0x04#8 ||| bitField bit, 0x1E#8]
  | .mov1CyHl bit => [0x71#8, 0x84#8 ||| bitField bit]
  | .and1CySaddr saddr bit => [0x71#8, 0x05#8 ||| bitField bit, saddr]
  | .and1CySfr sfr bit => [0x71#8, 0x0D#8 ||| bitField bit, sfr]
  | .and1CyA bit => [0x61#8, 0x8D#8 ||| bitField bit]
  | .and1CyPsw bit => [0x71#8, 0x05#8 ||| bitField bit, 0x1E#8]
  | .and1CyHl bit => [0x71#8, 0x85#8 ||| bitField bit]
  | .or1CySaddr saddr bit => [0x71#8, 0x06#8 ||| bitField bit, saddr]
  | .or1CySfr sfr bit => [0x71#8, 0x0E#8 ||| bitField bit, sfr]
  | .or1CyA bit => [0x61#8, 0x8E#8 ||| bitField bit]
  | .or1CyPsw bit => [0x71#8, 0x06#8 ||| bitField bit, 0x1E#8]
  | .or1CyHl bit => [0x71#8, 0x86#8 ||| bitField bit]
  | .xor1CySaddr saddr bit => [0x71#8, 0x07#8 ||| bitField bit, saddr]
  | .xor1CySfr sfr bit => [0x71#8, 0x0F#8 ||| bitField bit, sfr]
  | .xor1CyA bit => [0x61#8, 0x8F#8 ||| bitField bit]
  | .xor1CyPsw bit => [0x71#8, 0x07#8 ||| bitField bit, 0x1E#8]
  | .xor1CyHl bit => [0x71#8, 0x87#8 ||| bitField bit]
  | .mov1SaddrCy saddr bit => [0x71#8, 0x01#8 ||| bitField bit, saddr]
  | .mov1SfrCy sfr bit => [0x71#8, 0x09#8 ||| bitField bit, sfr]
  | .mov1ACy bit => [0x61#8, 0x89#8 ||| bitField bit]
  | .mov1PswCy bit => [0x71#8, 0x01#8 ||| bitField bit, 0x1E#8]
  | .mov1HlCy bit => [0x71#8, 0x81#8 ||| bitField bit]
  | .set1Saddr saddr bit => [0x0A#8 ||| bitField bit, saddr]
  | .set1Sfr sfr bit => [0x71#8, 0x0A#8 ||| bitField bit, sfr]
  | .set1A bit => [0x61#8, 0x8A#8 ||| bitField bit]
  | .set1Psw bit => [0x0A#8 ||| bitField bit, 0x1E#8]
  | .set1Hl bit => [0x71#8, 0x82#8 ||| bitField bit]
  | .clr1Saddr saddr bit => [0x0B#8 ||| bitField bit, saddr]
  | .clr1Sfr sfr bit => [0x71#8, 0x0B#8 ||| bitField bit, sfr]
  | .clr1A bit => [0x61#8, 0x8B#8 ||| bitField bit]
  | .clr1Psw bit => [0x0B#8 ||| bitField bit, 0x1E#8]
  | .clr1Hl bit => [0x71#8, 0x83#8 ||| bitField bit]
  | .set1Cy => [0x20#8]
  | .clr1Cy => [0x21#8]
  | .not1Cy => [0x01#8]
  | .call addr => [0x9A#8, lo addr, hi addr]
  | .callf page low => [0x0C#8 ||| bitField page, low]
  | .callt entry => [0xC1#8 ||| entryField entry]
  | .brk => [0xBF#8]
  | .ret => [0xAF#8]
  | .reti => [0x8F#8]
  | .retb => [0x9F#8]
  | .pushPsw => [0x22#8]
  | .pushRp rp => [0xB1#8 ||| rp.field]
  | .popPsw => [0x23#8]
  | .popRp rp => [0xB0#8 ||| rp.field]
  | .movwSpImm word => [0xEE#8, 0x1C#8, lo word, hi word]
  | .movwSpAx => [0x99#8, 0x1C#8]
  | .movwAxSp => [0x89#8, 0x1C#8]
  | .brAddr16 addr => [0x9B#8, lo addr, hi addr]
  | .brRel disp => [0xFA#8, disp]
  | .brAx => [0x31#8, 0x98#8]
  | .bcRel disp => [0x8D#8, disp]
  | .bncRel disp => [0x9D#8, disp]
  | .bzRel disp => [0xAD#8, disp]
  | .bnzRel disp => [0xBD#8, disp]
  | .btSaddr saddr bit disp => [0x8C#8 ||| bitField bit, saddr, disp]
  | .btSfr sfr bit disp => [0x31#8, 0x06#8 ||| bitField bit, sfr, disp]
  | .btA bit disp => [0x31#8, 0x0E#8 ||| bitField bit, disp]
  | .btPsw bit disp => [0x8C#8 ||| bitField bit, 0x1E#8, disp]
  | .btHl bit disp => [0x31#8, 0x86#8 ||| bitField bit, disp]
  | .bfSaddr saddr bit disp => [0x31#8, 0x03#8 ||| bitField bit, saddr, disp]
  | .bfSfr sfr bit disp => [0x31#8, 0x07#8 ||| bitField bit, sfr, disp]
  | .bfA bit disp => [0x31#8, 0x0F#8 ||| bitField bit, disp]
  | .bfPsw bit disp => [0x31#8, 0x03#8 ||| bitField bit, 0x1E#8, disp]
  | .bfHl bit disp => [0x31#8, 0x87#8 ||| bitField bit, disp]
  | .btclrSaddr saddr bit disp => [0x31#8, 0x01#8 ||| bitField bit, saddr, disp]
  | .btclrSfr sfr bit disp => [0x31#8, 0x05#8 ||| bitField bit, sfr, disp]
  | .btclrA bit disp => [0x31#8, 0x0D#8 ||| bitField bit, disp]
  | .btclrPsw bit disp => [0x31#8, 0x01#8 ||| bitField bit, 0x1E#8, disp]
  | .btclrHl bit disp => [0x31#8, 0x85#8 ||| bitField bit, disp]
  | .dbnzB disp => [0x8B#8, disp]
  | .dbnzC disp => [0x8A#8, disp]
  | .dbnzSaddr saddr disp => [0x04#8, saddr, disp]
  | .sel bank => [0x61#8, 0xD0#8 ||| bankField bank]
  | .nop => [0x00#8]
  | .ei => [0x7A#8, 0x1E#8]
  | .di => [0x7B#8, 0x1E#8]
  | .halt => [0x71#8, 0x10#8]
  | .stop => [0x71#8, 0x00#8]

/-- The length of an instruction in bytes (R161). -/
def Instr.length (i : Instr) : Nat := (encode i).length

/-- The `nbits / 8` bytes of a table word, first byte first. The opcode table numbers the bits of a row with the first
byte most significant (R183; log entry 2). -/
def tableBytes (nbits w : Nat) : List Byte :=
  let n := nbits / 8
  (List.range n).map fun k => BitVec.ofNat 8 (w / 256 ^ (n - 1 - k))

/-- The bytes of a table word, followed by zero bytes up to the longest instruction. -/
def tableBytesPadded (nbits w : Nat) : List Byte :=
  tableBytes nbits w ++ List.replicate (4 - nbits / 8) 0#8

/-- The instruction the decoder reads from a table word. -/
def decodeTableWord (nbits w : Nat) : Option Instr :=
  match decode (tableBytesPadded nbits w) with
  | .ok (i, _) => some i
  | .error _ => none

end Sys2Proof
end

