-- ==== Sys2Proof/Config.lean ====
section
/-! DEFINITION. What is fixed for one chip (the product of R6 and R7) and the free values: opaque constants without a
body, which nothing in Lean can evaluate. Each free value stands where the spec says that a value is undefined or is a
parameter; the tables that depend on the product are in `Machine/Products.lean`. -/

namespace Sys2Proof

/-- The families of R1 and R7, named by the three leading digits of the part number uPD78F04xy. -/
inductive Series where
  | lc040 | lc041 | ld042 | ld043 | le044 | le045 | le046 | lf047 | lf048 | lf049
  deriving DecidableEq, Repr

/-- The last digit `y` of the part number, which gives the memory sizes (R6). -/
inductive MemSize where
  | y0 | y1 | y2 | y3 | y4 | y5
  deriving DecidableEq, Repr

/-- One product of R1: the parameter `product` of R6. -/
structure Product where
  series : Series
  size   : MemSize
  deriving DecidableEq, Repr

namespace Config

/-- AC after ADDW, SUBW and CMPW, one draw for each execution (U7, R250). -/
opaque acAfter16 : Nat → Bool

/-- The byte a RAM address holds after the `epoch`-th reset at run time (U9, R935). -/
opaque ramAfterReset : Nat → Nat → Byte

/-- The stack pointer after the `epoch`-th reset at run time (R36, R933). -/
opaque spAfterReset : Nat → Word

/-- A free byte of a peripheral, one for each draw (U3, U4, U11, U12). -/
opaque freeByte : Nat → Byte

/-- A free word of a peripheral, one for each draw (U11, U12). -/
opaque freeWord : Nat → Word

/-- A free bit of a peripheral, one for each draw (U11, U12). -/
opaque freeBit : Nat → Bool

/-- The level of a pin that nothing states: for each moment, port and bit (U12, R466, N18). -/
opaque openPin : Nat → Nat → Nat → Bool

/-- The level of RTC1HZ in the first half of a second, which the spec does not give (R614). -/
opaque rtcHalfSecond : Bool

/-- The parameter `rtc_alarm_second` (D24): the value of SEC at whose count-up the alarm is compared. -/
opaque rtcAlarmSecond : Byte

/-- The parameter `dsad_convert` (D25), a draw for each conversion: the result for ADDCTL0, ADDCTL1 and the three input
voltages in millivolts; the last argument numbers the draw. -/
opaque dsadConvert : Byte → Byte → Nat → Nat → Nat → Nat → Word

/-- The parameter `mcg_one_first_half_level` (D26): the level of MCGO in the first half of a data 1, for each value of
MC0OLV. -/
opaque mcgOneFirstHalf : Bool → Bool

end Config

end Sys2Proof
end

