-- ==== Sys2Proof/Machine/Cells.lean ====
section
/-! DEFINITION. Sparse bytes: a list of (address, byte) pairs with strictly rising addresses in which no entry equals
what an unlisted address reads as, so that equal contents are equal lists. `dflt` is what an unlisted address reads as.
State holds the special function registers, memory and the pin levels in this form. -/

namespace Sys2Proof.Machine.Cells

/-- The byte at address `a`. -/
def read (dflt : Nat → Byte) (cs : List Host.Cell) (a : Nat) : Byte :=
  match cs with
  | [] => dflt a
  | (b, v) :: rest => if b = a then v else read dflt rest a

/-- The list without entries for address `a`. -/
def erase (a : Nat) (cs : List Host.Cell) : List Host.Cell := cs.filter fun c => c.1 != a

/-- The list with an entry `(a, v)` before the first larger address. -/
def insert (a : Nat) (v : Byte) (cs : List Host.Cell) : List Host.Cell :=
  match cs with
  | [] => [(a, v)]
  | c :: rest => if a < c.1 then (a, v) :: c :: rest else c :: insert a v rest

/-- Write byte `v` at address `a`; writing what an unlisted address reads as removes the entry. -/
def write (dflt : Nat → Byte) (cs : List Host.Cell) (a : Nat) (v : Byte) : List Host.Cell :=
  if v = dflt a then erase a cs else insert a v (erase a cs)

/-- Addresses strictly rise. -/
def sorted : List Host.Cell → Bool
  | [] => true
  | c :: rest => rest.all (fun c' => c.1 < c'.1) && sorted rest

/-- The canonical form. -/
def wf (dflt : Nat → Byte) (cs : List Host.Cell) : Bool :=
  sorted cs && cs.all fun c => c.2 != dflt c.1

end Sys2Proof.Machine.Cells
end

