-- ==== Sys2Proof/Machine/Bits.lean ====
section
/-! DEFINITION. Bit-field helpers on bytes: one bit, a field as a number, a write under a mask. -/

namespace Sys2Proof.Machine

/-- Byte `b` with bit `n` made `v` (R285). -/
def setBit (b : Byte) (n : Nat) (v : Bool) : Byte :=
  if v then b ||| (1#8 <<< n) else b &&& ~~~(1#8 <<< n)

/-- The field of `w` bits of byte `b` that begins at bit `n`, as a number. -/
def field (b : Byte) (n w : Nat) : Nat := b.toNat / 2 ^ n % 2 ^ w

/-- The bits of `v` where `mask` is 1, the bits of `old` elsewhere. -/
def merge (mask old v : Byte) : Byte := (v &&& mask) ||| (old &&& ~~~mask)

/-- Some bit of `v` outside `mask` is 1. -/
def outside (mask v : Byte) : Bool := (v &&& ~~~mask) != 0#8

/-- Some bit of `mask` differs between `a` and `b`. -/
def differs (mask a b : Byte) : Bool := ((a ^^^ b) &&& mask) != 0#8

/-- The bits of a byte, bit 0 first. -/
def bitList (b : Byte) : List Bool := (List.range 8).map b.getLsbD

/-- The byte whose bits are given, bit 0 first. -/
def ofBits : List Bool → Byte
  | [] => 0
  | b :: bs => (ofBits bs <<< 1) ||| (if b then 1#8 else 0#8)

/-- The bits of a byte in the reverse order. -/
def reverse8 (b : Byte) : Byte := ofBits (bitList b).reverse

/-- The number whose bits are given, the first one the most significant. -/
def numberOf (bs : List Bool) : Nat := bs.foldl (fun n b => 2 * n + (if b then 1 else 0)) 0

/-- An odd number of the bits are 1 (the parity of R698). -/
def oddOnes (bs : List Bool) : Bool := bs.foldl (fun p b => p != b) false

/-- The bit at an address within a byte field: `v` as a byte with only bit 0. -/
def bitByte (v : Bool) : Byte := if v then 1 else 0

end Sys2Proof.Machine
end

