-- ==== Sys2Proof/Machine/SfrTable.lean ====
section
/-! DEFINITION. The list of special function registers (R42 to R46, R107): name, address, access, bit units, reset
value and availability of each, row by row. -/

namespace Sys2Proof.Machine

/-- The special function registers by their symbols (R42 to R46). The two registers at FA26H and FA27H have no symbol
in the spec (R107) and are called DSTEN and DSDLY here. -/
inductive Sfr where
  /-- 16-bit delta-sigma A/D sampling delay time setting enable register (no symbol in the spec) (R675). -/
  | DSTEN
  /-- 16-bit delta-sigma A/D sampling delay time setting register (no symbol in the spec) (R675). -/
  | DSDLY
  /-- receive buffer register 6 (R42). -/
  | RXB6
  /-- port register 1 (R42). -/
  | P1
  /-- port register 2 (R42). -/
  | P2
  /-- port register 3 (R42). -/
  | P3
  /-- port register 4 (R42). -/
  | P4
  /-- transmit buffer register 6 (R42). -/
  | TXB6
  /-- 10-bit A/D conversion result register (R42). -/
  | ADCR
  /-- 8-bit A/D conversion result register H (R42). -/
  | ADCRH
  /-- port register 8 (R42). -/
  | P8
  /-- port register 9 (R42). -/
  | P9
  /-- port register 10 (R42). -/
  | P10
  /-- port register 11 (R42). -/
  | P11
  /-- port register 12 (R42). -/
  | P12
  /-- port register 13 (R42). -/
  | P13
  /-- port register 14 (R42). -/
  | P14
  /-- port register 15 (R42). -/
  | P15
  /-- 16-bit timer counter 00 (R42). -/
  | TM00
  /-- 16-bit timer capture/compare register 000 (R42). -/
  | CR000
  /-- 16-bit timer capture/compare register 010 (R42). -/
  | CR010
  /-- 8-bit timer counter 50 (R42). -/
  | TM50
  /-- 8-bit timer compare register 50 (R42). -/
  | CR50
  /-- 8-bit timer H compare register 00 (R42). -/
  | CMP00
  /-- 8-bit timer H compare register 10 (R42). -/
  | CMP10
  /-- 8-bit timer H compare register 01 (R42). -/
  | CMP01
  /-- 8-bit timer H compare register 11 (R42). -/
  | CMP11
  /-- serial I/O shift register 10 (R42). -/
  | SIO10
  /-- port function register 1 (R43). -/
  | PF1
  /-- port mode register 1 (R43). -/
  | PM1
  /-- port mode register 2 (R43). -/
  | PM2
  /-- port mode register 3 (R43). -/
  | PM3
  /-- port mode register 4 (R43). -/
  | PM4
  /-- port mode register 8 (R43). -/
  | PM8
  /-- port mode register 9 (R43). -/
  | PM9
  /-- port mode register 10 (R43). -/
  | PM10
  /-- port mode register 11 (R43). -/
  | PM11
  /-- port mode register 12 (R43). -/
  | PM12
  /-- port mode register 13 (R43). -/
  | PM13
  /-- port mode register 14 (R43). -/
  | PM14
  /-- port mode register 15 (R43). -/
  | PM15
  /-- internal high-speed oscillation trimming register (R43). -/
  | HIOTRM
  /-- pull-up resistor option register 1 (R43). -/
  | PU1
  /-- pull-up resistor option register 3 (R43). -/
  | PU3
  /-- pull-up resistor option register 4 (R43). -/
  | PU4
  /-- pull-up resistor option register 8 (R43). -/
  | PU8
  /-- pull-up resistor option register 9 (R43). -/
  | PU9
  /-- pull-up resistor option register 10 (R43). -/
  | PU10
  /-- pull-up resistor option register 11 (R43). -/
  | PU11
  /-- pull-up resistor option register 12 (R43). -/
  | PU12
  /-- pull-up resistor option register 13 (R43). -/
  | PU13
  /-- pull-up resistor option register 14 (R43). -/
  | PU14
  /-- pull-up resistor option register 15 (R43). -/
  | PU15
  /-- clock output selection register (R43). -/
  | CKS
  /-- 8-bit timer compare register 51 (R43). -/
  | CR51
  /-- 8-bit timer H mode register 2 (R43). -/
  | TMHMD2
  /-- 8-bit timer mode control register 51 (R43). -/
  | TMC51
  /-- 8-bit timer H compare register 02 (R43). -/
  | CMP02
  /-- 8-bit timer H compare register 12 (R43). -/
  | CMP12
  /-- MCG status register (R43). -/
  | MC0STR
  /-- external interrupt rising edge enable register (R43). -/
  | EGP
  /-- external interrupt falling edge enable register (R43). -/
  | EGN
  /-- MCG transmit buffer register (R43). -/
  | MC0TX
  /-- MCG transmit bit count specification register (R43). -/
  | MC0BIT
  /-- MCG control register 0 (R43). -/
  | MC0CTL0
  /-- MCG control register 1 (R43). -/
  | MC0CTL1
  /-- MCG control register 2 (R43). -/
  | MC0CTL2
  /-- input switch control register (R43). -/
  | ISC
  /-- asynchronous serial interface operation mode register 6 (R44). -/
  | ASIM6
  /-- 8-bit timer counter 52 (R44). -/
  | TM52
  /-- asynchronous serial interface reception error status register 6 (R44). -/
  | ASIS6
  /-- real-time counter clock selection register (R44). -/
  | RTCCL
  /-- asynchronous serial interface transmission status register 6 (R44). -/
  | ASIF6
  /-- clock selection register 6 (R44). -/
  | CKSR6
  /-- baud rate generator control register 6 (R44). -/
  | BRGC6
  /-- asynchronous serial interface control register 6 (R44). -/
  | ASICL6
  /-- 8-bit timer compare register 52 (R44). -/
  | CR52
  /-- 8-bit timer clock selection register 52 (R44). -/
  | TCL52
  /-- 8-bit timer mode control register 52 (R44). -/
  | TMC52
  /-- sub-count register (R44). -/
  | RSUBC
  /-- second count register (R44). -/
  | SEC
  /-- minute count register (R44). -/
  | MIN
  /-- hour count register (R44). -/
  | HOUR
  /-- day-of-week count register (R44). -/
  | WEEK
  /-- day count register (R44). -/
  | DAY
  /-- month count register (R44). -/
  | MONTH
  /-- year count register (R44). -/
  | YEAR
  /-- 8-bit timer H mode register 0 (R44). -/
  | TMHMD0
  /-- timer clock selection register 50 (R44). -/
  | TCL50
  /-- 8-bit timer mode control register 50 (R44). -/
  | TMC50
  /-- 8-bit timer H mode register 1 (R44). -/
  | TMHMD1
  /-- 8-bit timer H carrier control register 1 (R44). -/
  | TMCYC1
  /-- key return mode register (R44). -/
  | KRM
  /-- 8-bit timer counter 51 (R44). -/
  | TM51
  /-- asynchronous serial interface operation mode register 0 (R44). -/
  | ASIM0
  /-- baud rate generator control register 0 (R44). -/
  | BRGC0
  /-- receive buffer register 0 (R44). -/
  | RXB0
  /-- asynchronous serial interface reception error status register 0 (R44). -/
  | ASIS0
  /-- transmit shift register 0 (R44). -/
  | TXS0
  /-- 16-bit delta-sigma A/D conversion status register (R44). -/
  | ADDSTR
  /-- 16-bit delta-sigma A/D converter control register 0 (R44). -/
  | ADDCTL0
  /-- 16-bit delta-sigma A/D converter control register 1 (R44). -/
  | ADDCTL1
  /-- 16-bit delta-sigma A/D conversion result register (R44). -/
  | ADDCR
  /-- 8-bit delta-sigma A/D conversion result register (R44). -/
  | ADDCRH
  /-- serial operation mode register 10 (R45). -/
  | CSIM10
  /-- serial clock selection register 10 (R45). -/
  | CSIC10
  /-- watch error correction register (R45). -/
  | SUBCUD
  /-- transmit buffer register 10 (R45). -/
  | SOTB10
  /-- alarm minute register (R45). -/
  | ALARMWM
  /-- alarm hour register (R45). -/
  | ALARMWH
  /-- alarm day-of-week register (R45). -/
  | ALARMWW
  /-- real-time counter control register 0 (R45). -/
  | RTCC0
  /-- real-time counter control register 1 (R45). -/
  | RTCC1
  /-- real-time counter control register 2 (R45). -/
  | RTCC2
  /-- timer clock selection register 51 (R45). -/
  | TCL51
  /-- A/D converter mode register (R45). -/
  | ADM
  /-- analog input channel specification register (R45). -/
  | ADS
  /-- A/D port configuration register 0 (R45). -/
  | ADPC0
  /-- serial operation mode specification register 0 (R45). -/
  | CSIMA0
  /-- serial status register 0 (R45). -/
  | CSIS0
  /-- serial trigger register 0 (R45). -/
  | CSIT0
  /-- divisor selection register 0 (R45). -/
  | BRGCA0
  /-- automatic data transfer address point specification register 0 (R45). -/
  | ADTP0
  /-- automatic data transfer interval specification register 0 (R45). -/
  | ADTI0
  /-- serial I/O shift register 0 (R45). -/
  | SIOA0
  /-- automatic data transfer address count register 0 (R45). -/
  | ADTC0
  /-- watchdog timer enable register (R45). -/
  | WDTE
  /-- remote-control receive control register (R45). -/
  | RMCN
  /-- remote-control receive data register (R45). -/
  | RMDR
  /-- remote-control shift register receive counter register (R45). -/
  | RMSCR
  /-- remote-control receive GPLS compare register (R45). -/
  | RMGPLS
  /-- remote-control receive GPLL compare register (R45). -/
  | RMGPLL
  /-- clock operation mode selection register (R45). -/
  | OSCCTL
  /-- internal oscillation mode register (R45). -/
  | RCM
  /-- main clock mode register (R45). -/
  | MCM
  /-- main OSC control register (R45). -/
  | MOC
  /-- oscillation stabilisation time counter status register (R45). -/
  | OSTC
  /-- oscillation stabilisation time select register (R45). -/
  | OSTS
  /-- remote-control receive GPHS compare register (R45). -/
  | RMGPHS
  /-- remote-control receive GPHL compare register (R45). -/
  | RMGPHL
  /-- remote-control receive DLS compare register (R45). -/
  | RMDLS
  /-- remote-control receive DLL compare register (R45). -/
  | RMDLL
  /-- remote-control receive DH0S compare register (R45). -/
  | RMDH0S
  /-- remote-control receive DH0L compare register (R45). -/
  | RMDH0L
  /-- remote-control shift register (R45). -/
  | RMSR
  /-- reset control flag register (R45). -/
  | RESF
  /-- remote-control receive DH1S compare register (R45). -/
  | RMDH1S
  /-- remote-control receive DH1L compare register (R45). -/
  | RMDH1L
  /-- remote-control receive end-width select register (R45). -/
  | RMER
  /-- LCD mode register (R46). -/
  | LCDMD
  /-- LCD display mode register (R46). -/
  | LCDM
  /-- LCD clock control register 0 (R46). -/
  | LCDC0
  /-- port function register 2 (R46). -/
  | PF2
  /-- port function register ALL (R46). -/
  | PFALL
  /-- 16-bit timer mode control register 00 (R46). -/
  | TMC00
  /-- prescaler mode register 00 (R46). -/
  | PRM00
  /-- capture/compare control register 00 (R46). -/
  | CRC00
  /-- 16-bit timer output control register 00 (R46). -/
  | TOC00
  /-- low-voltage detection register (R46). -/
  | LVIM
  /-- low-voltage detection level selection register (R46). -/
  | LVIS
  /-- interrupt request flag register 0L (R46). -/
  | IF0L
  /-- interrupt request flag register 0H (R46). -/
  | IF0H
  /-- interrupt request flag register 1L (R46). -/
  | IF1L
  /-- interrupt request flag register 1H (R46). -/
  | IF1H
  /-- interrupt mask flag register 0L (R46). -/
  | MK0L
  /-- interrupt mask flag register 0H (R46). -/
  | MK0H
  /-- interrupt mask flag register 1L (R46). -/
  | MK1L
  /-- interrupt mask flag register 1H (R46). -/
  | MK1H
  /-- priority specification flag register 0L (R46). -/
  | PR0L
  /-- priority specification flag register 0H (R46). -/
  | PR0H
  /-- priority specification flag register 1L (R46). -/
  | PR1L
  /-- priority specification flag register 1H (R46). -/
  | PR1H
  /-- internal memory size switching register (R46). -/
  | IMS
  /-- internal expansion RAM size switching register (R46). -/
  | IXS
  /-- remote-control receive interrupt status register (R46). -/
  | INTS
  /-- remote-control receive interrupt status clear register (R46). -/
  | INTC
  /-- processor clock control register (R46). -/
  | PCC
  deriving DecidableEq, Repr

/-- The column R/W (R41). -/
inductive Access where
  /-- readable and writable -/
  | rw
  /-- read only -/
  | ro
  /-- write only -/
  | wo
  deriving DecidableEq, Repr

/-- The column of bit units (R41). -/
inductive Units where
  /-- 1-bit and 8-bit -/
  | b18
  /-- 8-bit only -/
  | b8
  /-- 16-bit only -/
  | w16
  /-- 1-bit, 8-bit, and 16-bit as one half of a pair -/
  | b18w
  deriving DecidableEq, Repr

/-- The column of availability (R41). -/
inductive Availability where
  /-- every product -/
  | all
  /-- 78K0/LD3, LE3, LF3 -/
  | notLc
  /-- 78K0/LF3 -/
  | lf
  /-- the products with the 10-bit A/D converter -/
  | adc
  /-- the products with the 16-bit delta-sigma A/D converter -/
  | dsad
  /-- the products with port function register 2 -/
  | pf2
  /-- the products with internal expansion RAM -/
  | ixs
  deriving DecidableEq, Repr

/-- One row of the list of special function registers. -/
structure SfrInfo where
  addr   : Nat
  access : Access
  units  : Units
  reset  : Nat
  avail  : Availability
  deriving DecidableEq, Repr

/-- The rows of R42 to R46 and R107. The reset value of WDTE is the one for WDTON = 1; a read of WDTE does not look at
it (R622). SUBCUD has the units of the list, not those of R609: DESIGN CHOICE, unsafe (log entry 126). -/
def Sfr.info : Sfr → SfrInfo
  | .DSTEN => ⟨0xFA26, .rw, .b8, 0x0, .dsad⟩
  | .DSDLY => ⟨0xFA27, .rw, .b8, 0x20, .dsad⟩
  | .RXB6 => ⟨0xFF00, .ro, .b8, 0xFF, .all⟩
  | .P1 => ⟨0xFF01, .rw, .b18, 0x0, .all⟩
  | .P2 => ⟨0xFF02, .rw, .b18, 0x0, .all⟩
  | .P3 => ⟨0xFF03, .rw, .b18, 0x0, .all⟩
  | .P4 => ⟨0xFF04, .rw, .b18, 0x0, .all⟩
  | .TXB6 => ⟨0xFF05, .rw, .b8, 0xFF, .all⟩
  | .ADCR => ⟨0xFF06, .ro, .w16, 0x0, .adc⟩
  | .ADCRH => ⟨0xFF07, .ro, .b8, 0x0, .adc⟩
  | .P8 => ⟨0xFF08, .rw, .b18, 0x0, .notLc⟩
  | .P9 => ⟨0xFF09, .rw, .b18, 0x0, .lf⟩
  | .P10 => ⟨0xFF0A, .rw, .b18, 0x0, .all⟩
  | .P11 => ⟨0xFF0B, .rw, .b18, 0x0, .all⟩
  | .P12 => ⟨0xFF0C, .rw, .b18, 0x0, .all⟩
  | .P13 => ⟨0xFF0D, .rw, .b18, 0x0, .lf⟩
  | .P14 => ⟨0xFF0E, .rw, .b18, 0x0, .all⟩
  | .P15 => ⟨0xFF0F, .rw, .b18, 0x0, .all⟩
  | .TM00 => ⟨0xFF10, .ro, .w16, 0x0, .all⟩
  | .CR000 => ⟨0xFF12, .rw, .w16, 0x0, .all⟩
  | .CR010 => ⟨0xFF14, .rw, .w16, 0x0, .all⟩
  | .TM50 => ⟨0xFF16, .ro, .b8, 0x0, .all⟩
  | .CR50 => ⟨0xFF17, .rw, .b8, 0x0, .all⟩
  | .CMP00 => ⟨0xFF18, .rw, .b8, 0x0, .all⟩
  | .CMP10 => ⟨0xFF19, .rw, .b8, 0x0, .all⟩
  | .CMP01 => ⟨0xFF1A, .rw, .b8, 0x0, .all⟩
  | .CMP11 => ⟨0xFF1B, .rw, .b8, 0x0, .all⟩
  | .SIO10 => ⟨0xFF1F, .ro, .b8, 0x0, .notLc⟩
  | .PF1 => ⟨0xFF20, .rw, .b18, 0x0, .all⟩
  | .PM1 => ⟨0xFF21, .rw, .b18, 0xFF, .all⟩
  | .PM2 => ⟨0xFF22, .rw, .b18, 0xFF, .all⟩
  | .PM3 => ⟨0xFF23, .rw, .b18, 0xFF, .all⟩
  | .PM4 => ⟨0xFF24, .rw, .b18, 0xFF, .all⟩
  | .PM8 => ⟨0xFF28, .rw, .b18, 0xFF, .notLc⟩
  | .PM9 => ⟨0xFF29, .rw, .b18, 0xFF, .lf⟩
  | .PM10 => ⟨0xFF2A, .rw, .b18, 0xFF, .all⟩
  | .PM11 => ⟨0xFF2B, .rw, .b18, 0xFF, .all⟩
  | .PM12 => ⟨0xFF2C, .rw, .b18, 0xFF, .all⟩
  | .PM13 => ⟨0xFF2D, .rw, .b18, 0xFF, .lf⟩
  | .PM14 => ⟨0xFF2E, .rw, .b18, 0xFF, .all⟩
  | .PM15 => ⟨0xFF2F, .rw, .b18, 0xFF, .all⟩
  | .HIOTRM => ⟨0xFF30, .rw, .b8, 0x10, .all⟩
  | .PU1 => ⟨0xFF31, .rw, .b18, 0x0, .all⟩
  | .PU3 => ⟨0xFF33, .rw, .b18, 0x0, .all⟩
  | .PU4 => ⟨0xFF34, .rw, .b18, 0x0, .all⟩
  | .PU8 => ⟨0xFF38, .rw, .b18, 0x0, .notLc⟩
  | .PU9 => ⟨0xFF39, .rw, .b18, 0x0, .lf⟩
  | .PU10 => ⟨0xFF3A, .rw, .b18, 0x0, .all⟩
  | .PU11 => ⟨0xFF3B, .rw, .b18, 0x0, .all⟩
  | .PU12 => ⟨0xFF3C, .rw, .b18, 0x0, .all⟩
  | .PU13 => ⟨0xFF3D, .rw, .b18, 0x0, .lf⟩
  | .PU14 => ⟨0xFF3E, .rw, .b18, 0x0, .all⟩
  | .PU15 => ⟨0xFF3F, .rw, .b18, 0x0, .all⟩
  | .CKS => ⟨0xFF40, .rw, .b18, 0x0, .all⟩
  | .CR51 => ⟨0xFF41, .rw, .b8, 0x0, .all⟩
  | .TMHMD2 => ⟨0xFF42, .rw, .b18, 0x0, .all⟩
  | .TMC51 => ⟨0xFF43, .rw, .b18, 0x0, .all⟩
  | .CMP02 => ⟨0xFF44, .rw, .b8, 0x0, .all⟩
  | .CMP12 => ⟨0xFF45, .rw, .b8, 0x0, .all⟩
  | .MC0STR => ⟨0xFF47, .ro, .b18, 0x0, .all⟩
  | .EGP => ⟨0xFF48, .rw, .b18, 0x0, .all⟩
  | .EGN => ⟨0xFF49, .rw, .b18, 0x0, .all⟩
  | .MC0TX => ⟨0xFF4A, .rw, .b8, 0xFF, .all⟩
  | .MC0BIT => ⟨0xFF4B, .rw, .b8, 0x7, .all⟩
  | .MC0CTL0 => ⟨0xFF4C, .rw, .b18, 0x10, .all⟩
  | .MC0CTL1 => ⟨0xFF4D, .rw, .b8, 0x0, .all⟩
  | .MC0CTL2 => ⟨0xFF4E, .rw, .b8, 0x1F, .all⟩
  | .ISC => ⟨0xFF4F, .rw, .b18, 0x0, .all⟩
  | .ASIM6 => ⟨0xFF50, .rw, .b18, 0x1, .all⟩
  | .TM52 => ⟨0xFF51, .ro, .b8, 0x0, .all⟩
  | .ASIS6 => ⟨0xFF53, .ro, .b8, 0x0, .all⟩
  | .RTCCL => ⟨0xFF54, .rw, .b18, 0x0, .all⟩
  | .ASIF6 => ⟨0xFF55, .ro, .b8, 0x0, .all⟩
  | .CKSR6 => ⟨0xFF56, .rw, .b8, 0x0, .all⟩
  | .BRGC6 => ⟨0xFF57, .rw, .b8, 0xFF, .all⟩
  | .ASICL6 => ⟨0xFF58, .rw, .b18, 0x16, .all⟩
  | .CR52 => ⟨0xFF59, .rw, .b8, 0x0, .all⟩
  | .TCL52 => ⟨0xFF5B, .rw, .b18, 0x0, .all⟩
  | .TMC52 => ⟨0xFF5C, .rw, .b18, 0x0, .all⟩
  | .RSUBC => ⟨0xFF60, .ro, .w16, 0x0, .all⟩
  | .SEC => ⟨0xFF62, .rw, .b8, 0x0, .all⟩
  | .MIN => ⟨0xFF63, .rw, .b8, 0x0, .all⟩
  | .HOUR => ⟨0xFF64, .rw, .b8, 0x12, .all⟩
  | .WEEK => ⟨0xFF65, .rw, .b8, 0x0, .all⟩
  | .DAY => ⟨0xFF66, .rw, .b8, 0x1, .all⟩
  | .MONTH => ⟨0xFF67, .rw, .b8, 0x1, .all⟩
  | .YEAR => ⟨0xFF68, .rw, .b8, 0x0, .all⟩
  | .TMHMD0 => ⟨0xFF69, .rw, .b18, 0x0, .all⟩
  | .TCL50 => ⟨0xFF6A, .rw, .b18, 0x0, .all⟩
  | .TMC50 => ⟨0xFF6B, .rw, .b18, 0x0, .all⟩
  | .TMHMD1 => ⟨0xFF6C, .rw, .b18, 0x0, .all⟩
  | .TMCYC1 => ⟨0xFF6D, .rw, .b18, 0x0, .all⟩
  | .KRM => ⟨0xFF6E, .rw, .b18, 0x0, .all⟩
  | .TM51 => ⟨0xFF6F, .ro, .b8, 0x0, .all⟩
  | .ASIM0 => ⟨0xFF70, .rw, .b18, 0x1, .all⟩
  | .BRGC0 => ⟨0xFF71, .rw, .b8, 0x1F, .all⟩
  | .RXB0 => ⟨0xFF72, .ro, .b8, 0xFF, .all⟩
  | .ASIS0 => ⟨0xFF73, .ro, .b8, 0x0, .all⟩
  | .TXS0 => ⟨0xFF74, .wo, .b8, 0xFF, .all⟩
  | .ADDSTR => ⟨0xFF75, .ro, .b8, 0x0, .dsad⟩
  | .ADDCTL0 => ⟨0xFF7C, .rw, .b18, 0x0, .dsad⟩
  | .ADDCTL1 => ⟨0xFF7D, .rw, .b18, 0x0, .dsad⟩
  | .ADDCR => ⟨0xFF7E, .ro, .w16, 0x0, .dsad⟩
  | .ADDCRH => ⟨0xFF7F, .ro, .b8, 0x0, .dsad⟩
  | .CSIM10 => ⟨0xFF80, .rw, .b18, 0x0, .notLc⟩
  | .CSIC10 => ⟨0xFF81, .rw, .b18, 0x0, .notLc⟩
  | .SUBCUD => ⟨0xFF82, .rw, .b18, 0x0, .all⟩
  | .SOTB10 => ⟨0xFF84, .rw, .b8, 0x0, .notLc⟩
  | .ALARMWM => ⟨0xFF86, .rw, .b8, 0x0, .all⟩
  | .ALARMWH => ⟨0xFF87, .rw, .b8, 0x12, .all⟩
  | .ALARMWW => ⟨0xFF88, .rw, .b8, 0x0, .all⟩
  | .RTCC0 => ⟨0xFF89, .rw, .b18, 0x0, .all⟩
  | .RTCC1 => ⟨0xFF8A, .rw, .b18, 0x0, .all⟩
  | .RTCC2 => ⟨0xFF8B, .rw, .b18, 0x0, .all⟩
  | .TCL51 => ⟨0xFF8C, .rw, .b18, 0x0, .all⟩
  | .ADM => ⟨0xFF8D, .rw, .b18, 0x0, .adc⟩
  | .ADS => ⟨0xFF8E, .rw, .b18, 0x0, .adc⟩
  | .ADPC0 => ⟨0xFF8F, .rw, .b18, 0x8, .adc⟩
  | .CSIMA0 => ⟨0xFF90, .rw, .b18, 0x0, .lf⟩
  | .CSIS0 => ⟨0xFF91, .rw, .b18, 0x0, .lf⟩
  | .CSIT0 => ⟨0xFF92, .rw, .b18, 0x0, .lf⟩
  | .BRGCA0 => ⟨0xFF93, .rw, .b8, 0x3, .lf⟩
  | .ADTP0 => ⟨0xFF94, .rw, .b8, 0x0, .lf⟩
  | .ADTI0 => ⟨0xFF95, .rw, .b8, 0x0, .lf⟩
  | .SIOA0 => ⟨0xFF96, .rw, .b8, 0x0, .lf⟩
  | .ADTC0 => ⟨0xFF97, .ro, .b8, 0x0, .lf⟩
  | .WDTE => ⟨0xFF99, .rw, .b8, 0x9A, .all⟩
  | .RMCN => ⟨0xFF9A, .rw, .b18, 0x0, .notLc⟩
  | .RMDR => ⟨0xFF9B, .ro, .b8, 0x0, .notLc⟩
  | .RMSCR => ⟨0xFF9C, .ro, .b8, 0x0, .notLc⟩
  | .RMGPLS => ⟨0xFF9D, .rw, .b8, 0x0, .notLc⟩
  | .RMGPLL => ⟨0xFF9E, .rw, .b8, 0x0, .notLc⟩
  | .OSCCTL => ⟨0xFF9F, .rw, .b18, 0x0, .all⟩
  | .RCM => ⟨0xFFA0, .rw, .b18, 0x80, .all⟩
  | .MCM => ⟨0xFFA1, .rw, .b18, 0x0, .all⟩
  | .MOC => ⟨0xFFA2, .rw, .b18, 0x80, .all⟩
  | .OSTC => ⟨0xFFA3, .ro, .b18, 0x0, .all⟩
  | .OSTS => ⟨0xFFA4, .rw, .b8, 0x5, .all⟩
  | .RMGPHS => ⟨0xFFA5, .rw, .b8, 0x0, .notLc⟩
  | .RMGPHL => ⟨0xFFA6, .rw, .b8, 0x0, .notLc⟩
  | .RMDLS => ⟨0xFFA7, .rw, .b8, 0x0, .notLc⟩
  | .RMDLL => ⟨0xFFA8, .rw, .b8, 0x0, .notLc⟩
  | .RMDH0S => ⟨0xFFA9, .rw, .b8, 0x0, .notLc⟩
  | .RMDH0L => ⟨0xFFAA, .rw, .b8, 0x0, .notLc⟩
  | .RMSR => ⟨0xFFAB, .ro, .b8, 0x0, .notLc⟩
  | .RESF => ⟨0xFFAC, .ro, .b8, 0x0, .all⟩
  | .RMDH1S => ⟨0xFFAD, .rw, .b8, 0x0, .notLc⟩
  | .RMDH1L => ⟨0xFFAE, .rw, .b8, 0x0, .notLc⟩
  | .RMER => ⟨0xFFAF, .rw, .b8, 0x0, .notLc⟩
  | .LCDMD => ⟨0xFFB0, .rw, .b18, 0x0, .all⟩
  | .LCDM => ⟨0xFFB1, .rw, .b18, 0x0, .all⟩
  | .LCDC0 => ⟨0xFFB2, .rw, .b18, 0x0, .all⟩
  | .PF2 => ⟨0xFFB5, .rw, .b18, 0x0, .pf2⟩
  | .PFALL => ⟨0xFFB6, .rw, .b18, 0x0, .all⟩
  | .TMC00 => ⟨0xFFBA, .rw, .b18, 0x0, .all⟩
  | .PRM00 => ⟨0xFFBB, .rw, .b18, 0x0, .all⟩
  | .CRC00 => ⟨0xFFBC, .rw, .b18, 0x0, .all⟩
  | .TOC00 => ⟨0xFFBD, .rw, .b18, 0x0, .all⟩
  | .LVIM => ⟨0xFFBE, .rw, .b18, 0x0, .all⟩
  | .LVIS => ⟨0xFFBF, .rw, .b18, 0x0, .all⟩
  | .IF0L => ⟨0xFFE0, .rw, .b18w, 0x0, .all⟩
  | .IF0H => ⟨0xFFE1, .rw, .b18w, 0x0, .all⟩
  | .IF1L => ⟨0xFFE2, .rw, .b18w, 0x0, .all⟩
  | .IF1H => ⟨0xFFE3, .rw, .b18w, 0x0, .all⟩
  | .MK0L => ⟨0xFFE4, .rw, .b18w, 0xFF, .all⟩
  | .MK0H => ⟨0xFFE5, .rw, .b18w, 0xFF, .all⟩
  | .MK1L => ⟨0xFFE6, .rw, .b18w, 0xFF, .all⟩
  | .MK1H => ⟨0xFFE7, .rw, .b18w, 0xFF, .all⟩
  | .PR0L => ⟨0xFFE8, .rw, .b18w, 0xFF, .all⟩
  | .PR0H => ⟨0xFFE9, .rw, .b18w, 0xFF, .all⟩
  | .PR1L => ⟨0xFFEA, .rw, .b18w, 0xFF, .all⟩
  | .PR1H => ⟨0xFFEB, .rw, .b18w, 0xFF, .all⟩
  | .IMS => ⟨0xFFF0, .rw, .b8, 0xCF, .all⟩
  | .IXS => ⟨0xFFF4, .rw, .b8, 0xC, .ixs⟩
  | .INTS => ⟨0xFFF9, .ro, .b18, 0x0, .notLc⟩
  | .INTC => ⟨0xFFFA, .rw, .b18, 0x0, .notLc⟩
  | .PCC => ⟨0xFFFB, .rw, .b18, 0x1, .all⟩

/-- The address of a register (for a 16-bit register, of its low byte). -/
def Sfr.addr (r : Sfr) : Nat := r.info.addr

/-- The register an 8-bit access at an address names; for a 16-bit register either of its bytes names it. -/
def Sfr.ofAddr (a : Nat) : Option Sfr :=
  match a with
  | 0xFA26 => some .DSTEN
  | 0xFA27 => some .DSDLY
  | 0xFF00 => some .RXB6
  | 0xFF01 => some .P1
  | 0xFF02 => some .P2
  | 0xFF03 => some .P3
  | 0xFF04 => some .P4
  | 0xFF05 => some .TXB6
  | 0xFF06 => some .ADCR
  | 0xFF07 => some .ADCRH
  | 0xFF08 => some .P8
  | 0xFF09 => some .P9
  | 0xFF0A => some .P10
  | 0xFF0B => some .P11
  | 0xFF0C => some .P12
  | 0xFF0D => some .P13
  | 0xFF0E => some .P14
  | 0xFF0F => some .P15
  | 0xFF10 => some .TM00
  | 0xFF11 => some .TM00
  | 0xFF12 => some .CR000
  | 0xFF13 => some .CR000
  | 0xFF14 => some .CR010
  | 0xFF15 => some .CR010
  | 0xFF16 => some .TM50
  | 0xFF17 => some .CR50
  | 0xFF18 => some .CMP00
  | 0xFF19 => some .CMP10
  | 0xFF1A => some .CMP01
  | 0xFF1B => some .CMP11
  | 0xFF1F => some .SIO10
  | 0xFF20 => some .PF1
  | 0xFF21 => some .PM1
  | 0xFF22 => some .PM2
  | 0xFF23 => some .PM3
  | 0xFF24 => some .PM4
  | 0xFF28 => some .PM8
  | 0xFF29 => some .PM9
  | 0xFF2A => some .PM10
  | 0xFF2B => some .PM11
  | 0xFF2C => some .PM12
  | 0xFF2D => some .PM13
  | 0xFF2E => some .PM14
  | 0xFF2F => some .PM15
  | 0xFF30 => some .HIOTRM
  | 0xFF31 => some .PU1
  | 0xFF33 => some .PU3
  | 0xFF34 => some .PU4
  | 0xFF38 => some .PU8
  | 0xFF39 => some .PU9
  | 0xFF3A => some .PU10
  | 0xFF3B => some .PU11
  | 0xFF3C => some .PU12
  | 0xFF3D => some .PU13
  | 0xFF3E => some .PU14
  | 0xFF3F => some .PU15
  | 0xFF40 => some .CKS
  | 0xFF41 => some .CR51
  | 0xFF42 => some .TMHMD2
  | 0xFF43 => some .TMC51
  | 0xFF44 => some .CMP02
  | 0xFF45 => some .CMP12
  | 0xFF47 => some .MC0STR
  | 0xFF48 => some .EGP
  | 0xFF49 => some .EGN
  | 0xFF4A => some .MC0TX
  | 0xFF4B => some .MC0BIT
  | 0xFF4C => some .MC0CTL0
  | 0xFF4D => some .MC0CTL1
  | 0xFF4E => some .MC0CTL2
  | 0xFF4F => some .ISC
  | 0xFF50 => some .ASIM6
  | 0xFF51 => some .TM52
  | 0xFF53 => some .ASIS6
  | 0xFF54 => some .RTCCL
  | 0xFF55 => some .ASIF6
  | 0xFF56 => some .CKSR6
  | 0xFF57 => some .BRGC6
  | 0xFF58 => some .ASICL6
  | 0xFF59 => some .CR52
  | 0xFF5B => some .TCL52
  | 0xFF5C => some .TMC52
  | 0xFF60 => some .RSUBC
  | 0xFF61 => some .RSUBC
  | 0xFF62 => some .SEC
  | 0xFF63 => some .MIN
  | 0xFF64 => some .HOUR
  | 0xFF65 => some .WEEK
  | 0xFF66 => some .DAY
  | 0xFF67 => some .MONTH
  | 0xFF68 => some .YEAR
  | 0xFF69 => some .TMHMD0
  | 0xFF6A => some .TCL50
  | 0xFF6B => some .TMC50
  | 0xFF6C => some .TMHMD1
  | 0xFF6D => some .TMCYC1
  | 0xFF6E => some .KRM
  | 0xFF6F => some .TM51
  | 0xFF70 => some .ASIM0
  | 0xFF71 => some .BRGC0
  | 0xFF72 => some .RXB0
  | 0xFF73 => some .ASIS0
  | 0xFF74 => some .TXS0
  | 0xFF75 => some .ADDSTR
  | 0xFF7C => some .ADDCTL0
  | 0xFF7D => some .ADDCTL1
  | 0xFF7E => some .ADDCR
  | 0xFF7F => some .ADDCRH
  | 0xFF80 => some .CSIM10
  | 0xFF81 => some .CSIC10
  | 0xFF82 => some .SUBCUD
  | 0xFF84 => some .SOTB10
  | 0xFF86 => some .ALARMWM
  | 0xFF87 => some .ALARMWH
  | 0xFF88 => some .ALARMWW
  | 0xFF89 => some .RTCC0
  | 0xFF8A => some .RTCC1
  | 0xFF8B => some .RTCC2
  | 0xFF8C => some .TCL51
  | 0xFF8D => some .ADM
  | 0xFF8E => some .ADS
  | 0xFF8F => some .ADPC0
  | 0xFF90 => some .CSIMA0
  | 0xFF91 => some .CSIS0
  | 0xFF92 => some .CSIT0
  | 0xFF93 => some .BRGCA0
  | 0xFF94 => some .ADTP0
  | 0xFF95 => some .ADTI0
  | 0xFF96 => some .SIOA0
  | 0xFF97 => some .ADTC0
  | 0xFF99 => some .WDTE
  | 0xFF9A => some .RMCN
  | 0xFF9B => some .RMDR
  | 0xFF9C => some .RMSCR
  | 0xFF9D => some .RMGPLS
  | 0xFF9E => some .RMGPLL
  | 0xFF9F => some .OSCCTL
  | 0xFFA0 => some .RCM
  | 0xFFA1 => some .MCM
  | 0xFFA2 => some .MOC
  | 0xFFA3 => some .OSTC
  | 0xFFA4 => some .OSTS
  | 0xFFA5 => some .RMGPHS
  | 0xFFA6 => some .RMGPHL
  | 0xFFA7 => some .RMDLS
  | 0xFFA8 => some .RMDLL
  | 0xFFA9 => some .RMDH0S
  | 0xFFAA => some .RMDH0L
  | 0xFFAB => some .RMSR
  | 0xFFAC => some .RESF
  | 0xFFAD => some .RMDH1S
  | 0xFFAE => some .RMDH1L
  | 0xFFAF => some .RMER
  | 0xFFB0 => some .LCDMD
  | 0xFFB1 => some .LCDM
  | 0xFFB2 => some .LCDC0
  | 0xFFB5 => some .PF2
  | 0xFFB6 => some .PFALL
  | 0xFFBA => some .TMC00
  | 0xFFBB => some .PRM00
  | 0xFFBC => some .CRC00
  | 0xFFBD => some .TOC00
  | 0xFFBE => some .LVIM
  | 0xFFBF => some .LVIS
  | 0xFFE0 => some .IF0L
  | 0xFFE1 => some .IF0H
  | 0xFFE2 => some .IF1L
  | 0xFFE3 => some .IF1H
  | 0xFFE4 => some .MK0L
  | 0xFFE5 => some .MK0H
  | 0xFFE6 => some .MK1L
  | 0xFFE7 => some .MK1H
  | 0xFFE8 => some .PR0L
  | 0xFFE9 => some .PR0H
  | 0xFFEA => some .PR1L
  | 0xFFEB => some .PR1H
  | 0xFFF0 => some .IMS
  | 0xFFF4 => some .IXS
  | 0xFFF9 => some .INTS
  | 0xFFFA => some .INTC
  | 0xFFFB => some .PCC
  | _ => none

/-- The register a 16-bit access at an even address names (R48). -/
def Sfr.pairAt (a : Nat) : Option Sfr :=
  match a with
  | 0xFF06 => some .ADCR
  | 0xFF10 => some .TM00
  | 0xFF12 => some .CR000
  | 0xFF14 => some .CR010
  | 0xFF60 => some .RSUBC
  | 0xFF7E => some .ADDCR
  | 0xFFE0 => some .IF0L
  | 0xFFE2 => some .IF1L
  | 0xFFE4 => some .MK0L
  | 0xFFE6 => some .MK1L
  | 0xFFE8 => some .PR0L
  | 0xFFEA => some .PR1L
  | _ => none

/-- What a byte of the special function registers holds after reset (R936 to R940); 16-bit registers are 0000H. -/
def sfrReset (a : Nat) : Byte :=
  match a with
  | 0xFA27 => 0x20  -- DSDLY
  | 0xFF00 => 0xFF  -- RXB6
  | 0xFF05 => 0xFF  -- TXB6
  | 0xFF21 => 0xFF  -- PM1
  | 0xFF22 => 0xFF  -- PM2
  | 0xFF23 => 0xFF  -- PM3
  | 0xFF24 => 0xFF  -- PM4
  | 0xFF28 => 0xFF  -- PM8
  | 0xFF29 => 0xFF  -- PM9
  | 0xFF2A => 0xFF  -- PM10
  | 0xFF2B => 0xFF  -- PM11
  | 0xFF2C => 0xFF  -- PM12
  | 0xFF2D => 0xFF  -- PM13
  | 0xFF2E => 0xFF  -- PM14
  | 0xFF2F => 0xFF  -- PM15
  | 0xFF30 => 0x10  -- HIOTRM
  | 0xFF4A => 0xFF  -- MC0TX
  | 0xFF4B => 0x07  -- MC0BIT
  | 0xFF4C => 0x10  -- MC0CTL0
  | 0xFF4E => 0x1F  -- MC0CTL2
  | 0xFF50 => 0x01  -- ASIM6
  | 0xFF57 => 0xFF  -- BRGC6
  | 0xFF58 => 0x16  -- ASICL6
  | 0xFF64 => 0x12  -- HOUR
  | 0xFF66 => 0x01  -- DAY
  | 0xFF67 => 0x01  -- MONTH
  | 0xFF70 => 0x01  -- ASIM0
  | 0xFF71 => 0x1F  -- BRGC0
  | 0xFF72 => 0xFF  -- RXB0
  | 0xFF74 => 0xFF  -- TXS0
  | 0xFF87 => 0x12  -- ALARMWH
  | 0xFF8F => 0x08  -- ADPC0
  | 0xFF93 => 0x03  -- BRGCA0
  | 0xFF99 => 0x9A  -- WDTE
  | 0xFFA0 => 0x80  -- RCM
  | 0xFFA2 => 0x80  -- MOC
  | 0xFFA4 => 0x05  -- OSTS
  | 0xFFE4 => 0xFF  -- MK0L
  | 0xFFE5 => 0xFF  -- MK0H
  | 0xFFE6 => 0xFF  -- MK1L
  | 0xFFE7 => 0xFF  -- MK1H
  | 0xFFE8 => 0xFF  -- PR0L
  | 0xFFE9 => 0xFF  -- PR0H
  | 0xFFEA => 0xFF  -- PR1L
  | 0xFFEB => 0xFF  -- PR1H
  | 0xFFF0 => 0xCF  -- IMS
  | 0xFFF4 => 0x0C  -- IXS
  | 0xFFFB => 0x01  -- PCC
  | _ => 0

end Sys2Proof.Machine
end

