-- ==== Sys2Proof/Machine/DeviceTypes.lean ====
section
/-! DEFINITION. The types of everything outside the CPU core, as plain data (R55): memory, the chip and its
surroundings, the hidden state of the clock generator and of every peripheral, and the moves of the agenda. -/

namespace Sys2Proof.Machine

/-! ### Memory -/

/-- Stored memory bytes in the canonical form of `Cells`. `epoch` counts the resets at run time after which RAM is
undefined (R935); what an unlisted address reads as depends on it. -/
structure Memory where
  epoch : Nat
  cells : List Host.Cell
  deriving DecidableEq, Repr

/-! ### The chip and its surroundings -/

/-- The product, the option bytes latched at reset (R890) and the non-volatile flags outside the address space
(R906, R910). -/
structure Chip where
  product : Product
  /-- option byte 0080H as latched at reset (R891) -/
  option80 : Byte
  /-- option byte 0081H as latched at reset (R893) -/
  option81 : Byte
  /-- the boot flag: at the next reset boot cluster 1 appears at 0000H (R906) -/
  bootFlag : Bool
  /-- boot cluster 1 is at 0000H now (R906) -/
  bootActive : Bool
  /-- chip erase prohibition (R910) -/
  noChipErase : Bool
  /-- block erase prohibition (R910) -/
  noBlockErase : Bool
  /-- write prohibition (R910) -/
  noWrite : Bool
  /-- boot cluster 0 rewrite prohibition (R910) -/
  noBootRewrite : Bool
  deriving DecidableEq, Repr

/-- What the outside world puts on the chip (R471, U12, D23): pin levels and which pins are driven, one byte per port
number, voltages in millivolts, and whether the RESET pin is low. -/
structure Env where
  level  : List Host.Cell
  driven : List Host.Cell
  vdd    : Nat
  exlvi  : Nat
  resetLow : Bool
  avref  : Nat
  analog : List (Nat × Nat)
  deriving DecidableEq, Repr

/-- The modes of R55 and the state in which a reset signal is held active (R930). -/
inductive Mode where
  | run | halt | stop | stabilise | held
  deriving DecidableEq, Repr

/-- The four causes of a reset (R872). -/
inductive ResetCause where
  | pin | poc | watchdog | lvi
  deriving DecidableEq, Repr

/-- The peripherals whose behaviour becomes free when a register is rewritten against its rule (U11). -/
inductive Block where
  | tm00 | tm50 | tm51 | tm52 | tmh0 | tmh1 | tmh2 | rtc | adc | dsad | uart0 | uart6 | csi10 | csia0
  | mcg | remote | lcd | lvi | buz | pcl
  deriving DecidableEq, Repr

/-! ### Hidden state of the clock generator and the peripherals -/

/-- The free-running prescalers of fPRS, fSUB and fRL, whose bits are the divided clocks. -/
structure Prescalers where
  prs : Word
  sub : Word
  rl  : Word
  deriving DecidableEq, Repr

/-- A pending switch of the CPU clock or the main system clock: the CPU clocks left until it must be complete, which count from
the end of the instruction that asked for it; `asked` until then (R505, R506). -/
structure ClockWait where
  left  : Nat
  asked : Bool
  deriving DecidableEq, Repr

/-- The clock generator (R490 to R506): the clocks in use (CLS, MCS), RSTS, whether the XT1 oscillation is stable (R491,
R502), the oscillation stabilisation counter, and the pending switches. -/
structure Clock where
  cls      : Bool
  mcs      : Bool
  rhStable : Bool
  xtStable : Bool
  x1Count  : Nat
  clsWait  : Option ClockWait
  mcsWait  : Option ClockWait
  deriving DecidableEq, Repr

/-- 16-bit timer 00 (R530 to R553) beside its registers: the output flip-flop, the sampled and accepted levels of TI000
and TI010, captures whose interrupt comes at the next count clock, the one-shot phase, whether the counter has not been
cleared since the start, whether the first external clock is still to be skipped, the window in which clearing OVF00 is
void, whether CR010 was rewritten since the last count clock (R552), whether the timer was stopped since reset, and the counts
before the last two count-ups, which the read buffer may still hold (R531). -/
structure Tm00 where
  out     : Bool
  samp0   : Bool
  level0  : Bool
  samp1   : Bool
  level1  : Bool
  pend000 : Bool
  pend010 : Bool
  shots   : Nat
  fresh   : Bool
  skip    : Bool
  ovfOpen : Bool
  rewritten : Bool
  stopped : Bool
  last    : Word
  last2   : Word
  deriving DecidableEq, Repr

/-- An 8-bit timer 5n (R559 to R569) beside its registers: the output flip-flop, the compare value in effect in PWM mode,
the value latched for the next overflow, the counts before the last two count-ups, which the read buffer may still hold
(R560), and the input enable of TI52 as its synchroniser last took it (R547). -/
structure Tm5 where
  out    : Bool
  crUsed : Byte
  crNext : Byte
  last   : Byte
  last2  : Byte
  gate   : Bool
  deriving DecidableEq, Repr

/-- An 8-bit timer Hn (R580 to R588) beside its registers: the counter, the output, whether the compare target is CMP1n,
the masked first clock, the value written to CMP1n that waits for its transfer, the count clocks since that write, whether
CMP1n was written since the timer stopped, the carrier clock, and the count clocks left until NRZB1 is transferred. -/
structure TmH where
  count    : Byte
  out      : Bool
  second   : Bool
  masked   : Bool
  cmp1Next : Byte
  cmp1Age  : Option Nat
  cmp1Set  : Bool
  carrier  : Bool
  nrzWait  : Option Nat
  deriving DecidableEq, Repr

/-- A value written to a count register of the real-time counter that has not reached the counter yet, and the most fRTC
clocks until it does (R606). -/
structure RtcWrite where
  reg   : Sfr
  value : Byte
  left  : Nat
  deriving DecidableEq, Repr

/-- The real-time counter (R600 to R614) beside its registers: the interval counter, the divider of the pin output RTCDIV,
the fRTC clocks for which RTCDIV goes on after it was stopped and the bit of the divider that it shows then (R604), an alarm
match waiting for WAFG, a second count-up held by RWAIT, and the written values on their way to the counters. -/
structure Rtc where
  interval  : Word
  divider   : Word
  tail      : Nat
  tailBit   : Nat
  alarmWait : Bool
  carryHeld : Bool
  buffer    : List RtcWrite
  deriving DecidableEq, Repr

/-- A divided clock output, BUZ or PCL (R639, R640): whether it is being output, which lasts until a high period begun
before the stop is over, the source clocks counted by its division circuit, the power of two by which that divides, and whether
its source is fSUB. -/
structure ClockOut where
  on      : Bool
  count   : Word
  divider : Nat
  sub     : Bool
  deriving DecidableEq, Repr

/-- The watchdog timer (R620 to R628): its counter of fRL clocks, whether WDTE was written since reset, and a reset
that waits for the stopped clock. -/
structure Wdt where
  count   : Nat
  written : Bool
  waiting : Bool
  deriving DecidableEq, Repr

/-- The 10-bit A/D converter (R650 to R659): fPRS clocks left of the conversion in progress, fPRS clocks since ADCE was
set, the voltage in millivolts that its sample-and-hold circuit holds, whether the conversion was disturbed, so that its
result is not guaranteed, and whether it is a first one begun before the comparator was stable. -/
structure Adc where
  left   : Nat
  warmup : Nat
  sample : Nat
  rough  : Bool
  early  : Bool
  deriving DecidableEq, Repr

/-- The 16-bit delta-sigma A/D converter (R670 to R676): clocks left of the conversion in progress, fPRS clocks since ADDPON
was set, whether its result is not guaranteed, and whether the pin setting of the target was changed. -/
structure Dsad where
  left   : Nat
  warmup : Nat
  rough  : Bool
  moved  : Bool
  deriving DecidableEq, Repr

/-- An asynchronous transmitter (R698, R724): the bits still to be sent, the first one on the line now, the base clocks
left of it or, at rest, of the bit time that the transmit counter counts, whether a transmission has begun since TXE was set,
so that this counter runs (R699, R729), whether a first byte is just moving from TXB6 to TXS6 (R725), whether POWER6 = 0 has cut a
transmission off (R714), whether the bits are a sync break field, and the base clocks, up to two, since TXE was changed. -/
structure UartTx where
  bits   : List Bool
  left   : Nat
  begun  : Bool
  moving : Bool
  cut    : Bool
  sbf    : Bool
  age    : Nat
  deriving DecidableEq, Repr

/-- An asynchronous receiver (R698, R699): the last sample and the filtered level of the line, whether a frame is being
received, the base clocks in it, the bits taken so far (latest first), whether the receive buffer holds unread data, and
the base clocks, up to two, since RXE was changed. -/
structure UartRx where
  sample : Bool
  line   : Bool
  active : Bool
  count  : Nat
  bits   : List Bool
  unread : Bool
  age    : Nat
  deriving DecidableEq, Repr

/-- CSI10 (R740 to R747) beside its registers: clock edges done of the transfer, and the output latch of SO10. -/
structure Csi10 where
  edges : Nat
  so    : Bool
  deriving DecidableEq, Repr

/-- CSIA0 (R759 to R1002) beside its registers: base clocks left of the present half period, clock edges done of the byte,
base clocks left of the interval, whether an interval is running, the output latch of SOA0, and whether an automatic
transfer is to start when the byte in progress ends (R763). -/
structure Csia0 where
  left  : Nat
  edges : Nat
  gap   : Nat
  inGap : Bool
  so    : Bool
  again : Bool
  deriving DecidableEq, Repr

/-- The LCD controller (R770 to R784): the time slice now output, and the LCD source clocks done in it. -/
structure Lcd where
  slice : Nat
  count : Nat
  deriving DecidableEq, Repr

/-- The Manchester code generator (R790 to R797): the bits still to be sent, the first one on the pin now, the base clocks
left of it, whether MC0TX holds data not yet loaded, whether it was written too late for a gapless transfer, and base
clocks left until a late start. -/
structure Mcg where
  bits  : List Bool
  left  : Nat
  full  : Bool
  late  : Bool
  delay : Nat
  deriving DecidableEq, Repr

/-- Where the remote-control receiver is in a frame (R819). -/
inductive RemotePhase where
  | guideWait | guideHigh | guideLow | dataLow | dataHigh | endWidth | ended
  deriving DecidableEq, Repr

/-- The remote-control receiver (R810 to R822) beside its registers: the synchronised input and the noise canceller's
samples, the level of the measured signal, the width counter, the end-width counter, the phase, whether a first INTDFULL has
come, and the divider of PRSEN. -/
structure Remote where
  sync     : Bool
  samp1    : Bool
  samp2    : Bool
  samp3    : Bool
  level    : Bool
  count    : Nat
  endCount : Nat
  phase    : RemotePhase
  gotFull  : Bool
  half     : Bool
  deriving DecidableEq, Repr

/-- Everything of the chip outside the CPU core: the special function registers, the RAM of the peripherals (LCD display
RAM and CSIA0 buffer RAM), the mode, a reset request raised by a peripheral, and the hidden state of each peripheral.
`draws` numbers the free values drawn here, `moment` numbers the moments between which a level that nothing states may
change (R466), `noted` lists the addresses at which an access recorded a fault, latest first (U3, U4), `wild` lists the
peripherals whose behaviour is free (U11), and `stalled` the UARTs that lost their clock while they were enabled (R697). `lviLow` and `pocLow` are the outputs of the low-voltage and the power-on-clear
comparator. -/
structure Devices where
  chip     : Chip
  env      : Env
  mode     : Mode
  resetReq : Option ResetCause
  sfrs     : List Host.Cell
  ram      : Memory
  draws    : Nat
  moment   : Nat
  noted    : List Nat
  wild     : List Block
  stalled  : List Block
  pre      : Prescalers
  clock    : Clock
  lviLow   : Bool
  pocLow   : Bool
  tm00     : Tm00
  tm50     : Tm5
  tm51     : Tm5
  tm52     : Tm5
  tmh0     : TmH
  tmh1     : TmH
  tmh2     : TmH
  rtc      : Rtc
  wdt      : Wdt
  adc      : Adc
  dsad     : Dsad
  tx0      : UartTx
  rx0      : UartRx
  tx6      : UartTx
  rx6      : UartRx
  csi10    : Csi10
  csia0    : Csia0
  lcd      : Lcd
  mcg      : Mcg
  remote   : Remote
  buz      : ClockOut
  pcl      : ClockOut
  deriving DecidableEq, Repr

/-! ### The agenda -/

/-- What an agent other than the CPU does (D23): one clock of a source clock, or a move of the environment. -/
inductive AgentMove where
  /-- one clock of the peripheral hardware clock -/
  | prs
  /-- one clock of the subsystem clock -/
  | sub
  /-- one clock of the internal low-speed oscillation clock -/
  | rl
  /-- one clock of the X1 oscillator -/
  | x1
  /-- a pin of a port is driven to a level -/
  | drive (port : Nat) (bit : BitNo) (level : Bool)
  /-- a pin of a port is no longer driven -/
  | float (port : Nat) (bit : BitNo)
  /-- the supply voltage in millivolts -/
  | vdd (mv : Nat)
  /-- the voltage on EXLVI in millivolts -/
  | exlvi (mv : Nat)
  /-- the analog reference voltage in millivolts -/
  | avref (mv : Nat)
  /-- the voltage on a port 2 pin in millivolts -/
  | analog (bit : BitNo) (mv : Nat)
  /-- the level of the RESET pin becomes low, or high again -/
  | resetPin (low : Bool)
  /-- the CPU clock switch selected by PCC completes -/
  | cpuClockSwitched
  /-- the main system clock switch selected by MCM completes -/
  | mainClockSwitched
  /-- the internal high-speed oscillator becomes stable -/
  | rhStable
  /-- the XT1 oscillator becomes stable -/
  | xtStable
  deriving DecidableEq, Repr

/-- Whose turn it is (D16, D23): the CPU's, which executes one instruction or stays in standby, with the moves that take
place between the read and the write of that instruction's operand (R146); or another agent's. -/
inductive Move where
  | cpu (between : List AgentMove)
  | agent (m : AgentMove)
  deriving DecidableEq, Repr

end Sys2Proof.Machine
end

