-- ==== Sys2Proof/Machine/Products.lean ====
section
/-! DEFINITION. What depends on the product (R6, R7): memory sizes, features, and the implemented bits of the port,
interrupt and key registers. -/

namespace Sys2Proof

/-! ### Families and features (R7) -/

/-- 78K0/LC3. -/
def Series.isLc : Series → Bool
  | .lc040 | .lc041 => true
  | _ => false

/-- 78K0/LD3. -/
def Series.isLd : Series → Bool
  | .ld042 | .ld043 => true
  | _ => false

/-- 78K0/LE3. -/
def Series.isLe : Series → Bool
  | .le044 | .le045 | .le046 => true
  | _ => false

/-- 78K0/LF3. -/
def Series.isLf : Series → Bool
  | .lf047 | .lf048 | .lf049 => true
  | _ => false

/-- 78K0/LE3 or LF3. -/
def Series.isLeLf (s : Series) : Bool := s.isLe || s.isLf

/-- The 10-bit successive-approximation A/D converter is mounted (R7, R650). -/
def Series.hasAdc : Series → Bool
  | .lc041 | .ld043 | .le045 | .le046 | .lf048 | .lf049 => true
  | _ => false

/-- The 16-bit delta-sigma A/D converter is mounted (R7, R670). -/
def Series.hasDsad : Series → Bool
  | .le046 | .lf049 => true
  | _ => false

/-- Port function register 2 is mounted (R457). -/
def Series.hasPf2 : Series → Bool
  | .le046 | .lf049 => false
  | _ => true

/-- The products that exist: y = 0 only in LC3 and LD3, y = 4 and 5 only in LE3 and LF3 (R1, R6). -/
def Product.mounted (p : Product) : Bool :=
  match p.size with
  | .y0 => !p.series.isLeLf
  | .y4 | .y5 => p.series.isLeLf
  | _ => true

/-- The internal expansion RAM, and with it IXS, is mounted (R6, R901). -/
def Product.hasExpansion (p : Product) : Bool :=
  match p.size with
  | .y4 | .y5 => true
  | _ => false

/-- The size of the flash memory in bytes (R6). -/
def Product.romSize (p : Product) : Nat :=
  match p.size with
  | .y0 => 0x2000 | .y1 => 0x4000 | .y2 => 0x6000 | .y3 => 0x8000 | .y4 => 0xC000 | .y5 => 0xF000

/-- The first address of the internal high-speed RAM (R6). -/
def Product.ramStart (p : Product) : Nat :=
  match p.size with
  | .y0 => 0xFD00 | .y1 => 0xFC00 | _ => 0xFB00

/-- The number of bytes of LCD display RAM, which is the number of segment outputs (R107, R770, R780). R7's table gives LE3
045x 24 and LF3 048x 32 instead; no ruling settles it, and the model takes the three other rules: DESIGN CHOICE, unsafe (log
entry 69). -/
def Series.lcdBytes : Series → Nat
  | .lc040 | .lc041 => 22
  | .ld042 | .ld043 | .le046 => 24
  | .le044 | .le045 | .lf049 => 32
  | .lf047 | .lf048 => 40

end Sys2Proof

namespace Sys2Proof.Machine

/-- A row of the register list is available on a product (R41). -/
def Availability.on (v : Availability) (p : Product) : Bool :=
  match v with
  | .all => true
  | .notLc => !p.series.isLc
  | .lf => p.series.isLf
  | .adc => p.series.hasAdc
  | .dsad => p.series.hasDsad
  | .pf2 => p.series.hasPf2
  | .ixs => p.hasExpansion

/-- A register is mounted on a product (R41). -/
def Sfr.on (r : Sfr) (p : Product) : Bool := Availability.on r.info.avail p

/-! ### Memory size switching (R900, R901) -/

/-- The end of the ROM area that a value of IMS sets. -/
def imsRomEnd (ims : Byte) : Nat :=
  match field ims 0 4 with
  | 0x2 => 0x2000 | 0x4 => 0x4000 | 0x6 => 0x6000 | 0x8 => 0x8000 | 0xC => 0xC000 | 0xF => 0xF000
  | _ => 0

/-- The start of the high-speed RAM area that a value of IMS sets. -/
def imsRamStart (ims : Byte) : Nat :=
  match field ims 5 3 with
  | 0 => 0xFC00 | 2 => 0xFD00 | 6 => 0xFB00
  | _ => 0xFF00

/-- A value IMS may be given: a ROM size and a RAM size of the lists, bit 4 zero. -/
def imsAllowed (ims : Byte) : Bool :=
  imsRomEnd ims != 0 && imsRamStart ims != 0xFF00 && !ims.getLsbD 4

/-- A value IXS may be given: 0CH closes and 0AH opens the internal expansion RAM. -/
def ixsAllowed (ixs : Byte) : Bool := ixs == 0x0C#8 || ixs == 0x0A#8

/-! ### Ports -/

/-- The bits of port `m` that have an input/output pin (R451). -/
def portMask (s : Series) (m : Nat) : Byte :=
  match m with
  | 1 => if s.isLc then 0x0C else if s.isLd then 0x0E else if s.isLe then 0x1E else 0xFF
  | 2 => if s.isLeLf then 0xFF else 0x3F
  | 3 => if s.isLf then 0x1F else 0x1E
  | 4 => if s.isLc then 0x01 else if s.isLd then 0x03 else if s.isLe then 0x1F else 0xFF
  | 8 => if s.isLc then 0x00 else if s.isLd then 0x01 else 0x0F
  | 9 => if s.isLf then 0x0F else 0x00
  | 10 => if s.isLeLf then 0x0F else 0x03
  | 11 => if s.isLc then 0x0C else if s.isLd then 0x0E else 0x0F
  | 12 => 0x01
  | 13 => if s.isLf then 0x0F else 0x00
  | 14 => 0x0F
  | 15 => 0x0F
  | _ => 0x00

/-- The bits of the output latch of port `m`: those with a pin and, on ports 14 and 15, the key scan bits PK (R452,
R776). -/
def latchMask (s : Series) (m : Nat) : Byte :=
  if m = 14 ∨ m = 15 then 0xFF else portMask s m

/-- The pin of a port: port number and bit. -/
abbrev Pin := Nat × Nat

/-- The pin of each external interrupt INTPn (R410), where the product has it. -/
def intpPin (s : Series) (n : Nat) : Option Pin :=
  match n with
  | 0 => some (12, 0)
  | 1 => some (3, 4)
  | 2 => some (3, 3)
  | 3 => some (3, 1)
  | 4 => if s.isLeLf then some (1, 4) else none
  | 5 => if s.isLf then some (3, 0) else none
  | _ => none

/-- The bits of EGP and EGN (R410). -/
def egMask (s : Series) : Byte :=
  if s.isLf then 0x3F else if s.isLe then 0x1F else 0x0F

/-- The pin of key input KRn (R830), where the product has it. -/
def keyPin (s : Series) (n : Nat) : Option Pin :=
  if s.isLeLf then
    if n < 5 || (s.isLf && n < 8) then some (4, n) else none
  else
    match n with
    | 0 => some (4, 0)
    | 1 => if s.isLd then some (4, 1) else none
    | 2 => if s.isLd then some (1, 1) else none
    | 3 => some (1, 2)
    | 4 => some (1, 3)
    | _ => none

/-- The segment output SEGn on a pin of a port (R455); SEG0 to SEG3 have pins of their own. -/
def pinSegment (s : Series) (p : Pin) : Option Nat :=
  let n := p.2
  if !(portMask s p.1).getLsbD n then none
  else
    match p.1 with
    | 2 =>
      if !s.hasPf2 then none
      else if s.isLc then some (21 - n) else if s.isLd then some (23 - n) else if s.isLe then some (31 - n)
      else some (39 - n)
    | 8 => some (4 + n)
    | 9 => some (8 + n)
    | 10 => some ((if s.isLc then 4 else if s.isLd then 5 else if s.isLe then 8 else 12) + n)
    | 11 => some ((if s.isLc then 4 else if s.isLd then 6 else if s.isLe then 12 else 16) + n)
    | 13 => some (20 + n)
    | 14 => some ((if s.isLc then 8 else if s.isLd then 10 else if s.isLe then 16 else 24) + n)
    | 15 => some ((if s.isLc then 12 else if s.isLd then 14 else if s.isLe then 20 else 28) + n)
    | _ => none

/-- The first of the eight segment outputs that carry KS0 to KS7 (R770). -/
def keySegment (s : Series) : Nat := if s.isLc then 8 else if s.isLd then 10 else if s.isLe then 16 else 24

/-- The pin on which SEGn comes out, where that is a pin of a port. -/
def segmentPin (s : Series) (n : Nat) : Option Pin :=
  ([2, 8, 9, 10, 11, 13, 14, 15].flatMap fun m => (List.range 8).map fun k => (m, k)).find? fun p =>
    pinSegment s p == some n

/-- The bits of KRM (R830). -/
def krMask (s : Series) : Byte :=
  if s.isLf then 0xFF else if s.isLc then 0x19 else 0x1F

/-! ### Interrupt flag registers (R404) -/

/-- The bits of the four flag registers that exist, in the order IF0L, IF0H, IF1L, IF1H (R404 to R406). -/
def flagMask (s : Series) (k : Nat) : Byte :=
  match k with
  | 0 => if s.isLf then 0xFF else if s.isLe then 0xBF else 0x9F
  | 1 => 0xFF
  | 2 => (if s.hasDsad then 0xFF else 0xBF) &&& (if s.hasAdc then 0xFF else 0xFE)
  | _ => if s.isLf then 0x1F else if s.isLc then 0x03 else 0x0F

end Sys2Proof.Machine
end

