-- ==== Sys2Proof/Machine/ResetValues.lean ====
section
/-! DEFINITION. What everything outside the CPU core is after reset (R936 to R941). -/

namespace Sys2Proof.Machine

/-- The chip that `State.reset` is: uPD78F0495, which has every peripheral, with erased flash, so option bytes FFH
(log entries 3 and 4). -/
def Chip.reset : Chip where
  product := ⟨.lf049, .y5⟩
  option80 := 0xFF
  option81 := 0xFF
  bootFlag := false
  bootActive := false
  noChipErase := false
  noBlockErase := false
  noWrite := false
  noBootRewrite := false

/-- No pin driven, supply and reference at 5 V (log entry 5). -/
def Env.reset : Env where
  level := []
  driven := []
  vdd := 5000
  exlvi := 0
  resetLow := false
  avref := 5000
  analog := []

/-- The clock generator after reset: CPU on the internal high-speed oscillator, which is not yet accurate unless the
POC mode waited for it (R494, R507). -/
def Clock.reset (rhStable : Bool) : Clock where
  cls := false
  mcs := false
  rhStable := rhStable
  xtStable := false
  x1Count := 0
  clsWait := none
  mcsWait := none

/-- Timer 00 stopped. -/
def Tm00.reset : Tm00 where
  out := false
  samp0 := false
  level0 := false
  samp1 := false
  level1 := false
  pend000 := false
  pend010 := false
  shots := 0
  fresh := true
  skip := false
  ovfOpen := false
  rewritten := false
  stopped := false
  last := 0
  last2 := 0

/-- A timer 5n stopped. -/
def Tm5.reset : Tm5 := ⟨false, 0, 0, 0, 0, false⟩

/-- A timer Hn stopped. -/
def TmH.reset : TmH where
  count := 0
  out := false
  second := false
  masked := false
  cmp1Next := 0
  cmp1Age := none
  cmp1Set := false
  carrier := false
  nrzWait := none

/-- A transmitter at rest. -/
def UartTx.reset : UartTx := ⟨[], 0, false, false, false, false, 2⟩

/-- A receiver at rest on a high line. -/
def UartRx.reset : UartRx := ⟨true, true, false, 0, [], false, 2⟩

/-- CSIA0 with its internal circuit reset (R761). -/
def Csia0.reset : Csia0 where
  left := 0
  edges := 0
  gap := 0
  inGap := false
  so := false
  again := false

/-- A divided clock output stopped, its output low (R640). -/
def ClockOut.reset : ClockOut := ⟨false, 0, 0, false⟩

/-- The remote-control receiver disabled. -/
def Remote.reset : Remote where
  sync := false
  samp1 := false
  samp2 := false
  samp3 := false
  level := false
  count := 0
  endCount := 0
  phase := .guideWait
  gotFull := false
  half := false

/-- The peripherals after reset (R936 to R941): every register at its reset value, every counter and shifter stopped. -/
def Devices.reset (chip : Chip) (env : Env) (ram : Memory) (draws moment : Nat) (noted : List Nat)
    (rhStable : Bool) : Devices where
  chip := chip
  env := env
  mode := .run
  resetReq := none
  sfrs := []
  ram := ram
  draws := draws
  moment := moment
  noted := noted
  wild := []
  stalled := []
  pre := ⟨0, 0, 0⟩
  clock := Clock.reset rhStable
  lviLow := false
  pocLow := false
  tm00 := Tm00.reset
  tm50 := Tm5.reset
  tm51 := Tm5.reset
  tm52 := Tm5.reset
  tmh0 := TmH.reset
  tmh1 := TmH.reset
  tmh2 := TmH.reset
  rtc := ⟨0, 0, 0, 0, false, false, []⟩
  wdt := ⟨0, false, false⟩
  adc := ⟨0, 0, 0, false, false⟩
  dsad := ⟨0, 0, false, false⟩
  tx0 := UartTx.reset
  rx0 := UartRx.reset
  tx6 := UartTx.reset
  rx6 := UartRx.reset
  csi10 := ⟨0, false⟩
  csia0 := Csia0.reset
  lcd := ⟨0, 0⟩
  mcg := ⟨[], 0, false, false, 0⟩
  remote := Remote.reset
  buz := ClockOut.reset
  pcl := ClockOut.reset

end Sys2Proof.Machine
end

