-- ==== Sys2Proof/Machine/State.lean ====
section
/-! DEFINITION. The state of one chip as plain data (R20, R55): the CPU's registers and memory beside everything outside
the core (`DeviceTypes`); the reasons a step can stop; and the state right after reset. -/

namespace Sys2Proof.Machine

/-! ### Why a step stops -/

/-- The faults: the machine has no next state. The chip has no synchronous exceptions (R400), so none of these is a trap.
Each one is safe: the model stops where the spec gives no effect. An access for which the spec has the model record a fault and go
on (U1, U3, U4) is none of them: it is listed in `Devices.noted`. -/
inductive Fault where
  /-- A fetch from an area that holds no instructions, where the watchdog's reset does not reach (U2). Raised by the
  fetch of a step. Safe. -/
  | fetch (addr : Nat)
  /-- The bytes at PC are no instruction (U6). Raised by the decoding of a step. Safe. -/
  | undefinedCode (addr : Nat)
  /-- The clock that the CPU has selected does not run, so the CPU takes no step (U8). Raised by a step. Safe. -/
  | cpuClockStopped
  /-- An access that waits for the peripheral clock while that clock is stopped: the wait never ends (U10). Raised by
  SFR accesses. Safe. -/
  | endlessWait
  deriving DecidableEq, Repr

/-- The refusals: the model has no meaning for the instruction. -/
inductive Refusal where
  /-- An instruction without a meaning in this model. Raised by `exec`. Safe. -/
  | notModelled (mnemonic : String)
  /-- A 16-bit operand at an odd address (U5). Raised by decoding and by 16-bit accesses. Safe. -/
  | oddOperand
  /-- An access to a special function register, PSW among them, in a bit unit it does not allow (U4). Raised by SFR accesses
  and by 16-bit accesses. Safe. -/
  | sfrWidth (addr : Nat)
  /-- A write of a value the register's rule calls prohibited, or of the wrong value to a bit that must be 0 or 1 (U11).
  Raised by SFR writes. Safe. -/
  | prohibitedSetting (reg : Sfr)
  /-- A write that a clock rule forbids: EXCLK or OSCSEL changed while MSTOP = 0, XSEL cleared, a clock selected that is not
  yet stable, and the like (U8). Raised by writes to the clock registers. Safe. -/
  | clockRule (reg : Sfr)
  /-- STOP executed while the CPU runs on the subsystem clock (U8, R397). Raised by STOP. Safe. -/
  | stopOnSubclock
  deriving DecidableEq, Repr

/-! ### The whole machine -/

/-- The state of the machine. `hold` is the interrupt-request-hold condition (R430, R55). `draws`, `cpuClocks`,
`agenda` and `between` are the model's own: the number of the next free value of the CPU, the CPU clocks executed (R182),
the moves to come, an empty agenda giving the CPU every turn, and the moves that take place between the read and the write
of the instruction being executed (R146). -/
structure State where
  pc        : Word
  psw       : Byte
  sp        : Word
  mem       : Memory
  hold      : Bool
  draws     : Nat
  cpuClocks : Nat
  agenda    : List Move
  between   : List AgentMove
  dev       : Devices
  deriving DecidableEq, Repr

/-! ### Reset -/

/-- The machine right after power-on reset: PC from the reset vector of erased flash (R932), PSW 02H (R27), every
special function register at its reset value; SP, which the spec leaves undefined, is FEE0H (log entry 6). -/
def State.reset : State where
  pc := 0xFFFF
  psw := 0x02
  sp := 0xFEE0
  mem := ⟨0, []⟩
  hold := false
  draws := 0
  cpuClocks := 0
  agenda := []
  between := []
  dev := Devices.reset Chip.reset Env.reset ⟨0, []⟩ 0 0 [] false

end Sys2Proof.Machine
end

