-- ==== Sys2Proof/Machine/Devices.lean ====
section
/-! DEFINITION. Access to the stored bytes of the special function registers, interrupt requests, free values and reset
requests. A program's own reads and writes of a register go through `SfrAccess`; these are the storage beneath. -/

namespace Sys2Proof.Machine

/-- The answer of an operation that may fault or be refused. -/
abbrev Res (α : Type) := Host.Outcome α Fault Refusal

/-- Go on with the answer, or stop for the same reason. -/
def andThen {α β : Type} (x : Res α) (f : α → Res β) : Res β :=
  match x with
  | .next a => f a
  | .fault r => .fault r
  | .refused r => .refused r

/-- Go on with a pair. -/
def andThen2 {α β γ : Type} (x : Res (α × β)) (f : α → β → Res γ) : Res γ :=
  andThen x fun p => f p.1 p.2

/-! ### Stored register bytes -/

/-- The stored byte of a register. -/
def Devices.rd (d : Devices) (r : Sfr) : Byte := Cells.read sfrReset d.sfrs r.addr

/-- Store a byte in a register. -/
def Devices.wr (d : Devices) (r : Sfr) (v : Byte) : Devices :=
  { d with sfrs := Cells.write sfrReset d.sfrs r.addr v }

/-- The stored word of a 16-bit register, low byte at the even address (R48). -/
def Devices.rdWord (d : Devices) (r : Sfr) : Word :=
  join (Cells.read sfrReset d.sfrs (r.addr + 1)) (Cells.read sfrReset d.sfrs r.addr)

/-- Store a word in a 16-bit register (R48). -/
def Devices.wrWord (d : Devices) (r : Sfr) (v : Word) : Devices :=
  { d with sfrs := Cells.write sfrReset (Cells.write sfrReset d.sfrs r.addr (lo v)) (r.addr + 1) (hi v) }

/-- Bit `n` of a register. -/
def Devices.bit (d : Devices) (r : Sfr) (n : Nat) : Bool := (d.rd r).getLsbD n

/-- Make bit `n` of a register `v`. -/
def Devices.putBit (d : Devices) (r : Sfr) (n : Nat) (v : Bool) : Devices := d.wr r (setBit (d.rd r) n v)

/-- The field of `w` bits of a register from bit `n`. -/
def Devices.fieldOf (d : Devices) (r : Sfr) (n w : Nat) : Nat := field (d.rd r) n w

/-- The family of the chip. -/
def Devices.series (d : Devices) : Series := d.chip.product.series

/-! ### Free values -/

/-- A free byte, and the devices with the draw counted. -/
def Devices.drawByte (d : Devices) : Byte × Devices :=
  (Config.freeByte d.draws, { d with draws := d.draws + 1 })

/-- A free word. -/
def Devices.drawWord (d : Devices) : Word × Devices :=
  (Config.freeWord d.draws, { d with draws := d.draws + 1 })

/-- A free bit. -/
def Devices.drawBit (d : Devices) : Bool × Devices :=
  (Config.freeBit d.draws, { d with draws := d.draws + 1 })

/-! ### Interrupt requests (R401, R415) -/

/-- The maskable interrupt sources that have a flag of their own, in the order of their default priorities (R401). -/
inductive Source where
  | lvi | p0 | p1 | p2 | p3 | p4 | p5 | sre6 | sr6 | st6 | csi10st0 | tmh1 | tmh0 | tm50 | tm000 | tm010
  | ad | sr0 | rtc | tm51 | kr | rtci | dsad | tm52 | tmh2 | mcg | rin | remote | acsi
  deriving DecidableEq, Repr

/-- The default priority of a source: 0 is taken first (R401). -/
def Source.number : Source → Nat
  | .lvi => 0 | .p0 => 1 | .p1 => 2 | .p2 => 3 | .p3 => 4 | .p4 => 5 | .p5 => 6 | .sre6 => 7 | .sr6 => 8 | .st6 => 9
  | .csi10st0 => 10 | .tmh1 => 11 | .tmh0 => 12 | .tm50 => 13 | .tm000 => 14 | .tm010 => 15 | .ad => 16 | .sr0 => 17
  | .rtc => 18 | .tm51 => 19 | .kr => 20 | .rtci => 21 | .dsad => 22 | .tm52 => 23 | .tmh2 => 24 | .mcg => 25
  | .rin => 26 | .remote => 27 | .acsi => 28

/-- The request flag register of the group `k` of eight sources (R404). -/
def flagReg (k : Nat) : Sfr :=
  match k with
  | 0 => .IF0L | 1 => .IF0H | 2 => .IF1L | _ => .IF1H

/-- The mask flag register of a group (R405). -/
def maskReg (k : Nat) : Sfr :=
  match k with
  | 0 => .MK0L | 1 => .MK0H | 2 => .MK1L | _ => .MK1H

/-- The priority flag register of a group (R406). -/
def prioReg (k : Nat) : Sfr :=
  match k with
  | 0 => .PR0L | 1 => .PR0H | 2 => .PR1L | _ => .PR1H

/-- Set the request flag of a source (R415): `raise(source)`. The bits of R404 follow the default priorities. -/
def Devices.raise (d : Devices) (s : Source) : Devices :=
  d.putBit (flagReg (s.number / 8)) (s.number % 8) true

/-- Set the request flag where a condition holds. -/
def Devices.raiseIf (d : Devices) (c : Bool) (s : Source) : Devices := if c then d.raise s else d

/-! ### Reset requests and free behaviour -/

/-- Request a reset; it takes place at the end of the move (R930). Of several causes requested before the end of one move the last
one alone counts, for RESF, LVIM and LVIS too: DESIGN CHOICE, unsafe (R56, R871, R930; log entry 129). -/
def Devices.requestReset (d : Devices) (c : ResetCause) : Devices := { d with resetReq := some c }

/-- Watchdog counting and illegal-access detection are enabled (WDTON, R891). -/
def Devices.wdton (d : Devices) : Bool := d.chip.option80.getLsbD 4

/-- The low-speed oscillator cannot be stopped by software (LSROSC, R891). -/
def Devices.lsrosc (d : Devices) : Bool := d.chip.option80.getLsbD 0

/-- A peripheral's behaviour is free (U11). -/
def Devices.isWild (d : Devices) (b : Block) : Bool := d.wild.contains b

/-- A peripheral's behaviour becomes free: a register was rewritten against its rule (U11). -/
def Devices.makeWild (d : Devices) (b : Block) : Devices :=
  if d.wild.contains b then d else { d with wild := b :: d.wild }

/-- A peripheral was stopped: its behaviour is the stated one again (U11, R697). -/
def Devices.tame (d : Devices) (b : Block) : Devices :=
  { d with wild := d.wild.filter fun c => c != b, stalled := d.stalled.filter fun c => c != b }

/-- An enabled UART loses its clock, where a condition holds: it keeps its state while the clock is stopped (R697). -/
def Devices.stallIf (d : Devices) (c : Bool) (b : Block) : Devices := if c then { d with stalled := b :: d.stalled } else d

/-- The clock of a UART resumes: one that was enabled when it stopped is not guaranteed to operate any more (R697). -/
def Devices.resume (d : Devices) (b : Block) : Devices :=
  if d.stalled.contains b then { d.makeWild b with stalled := d.stalled.filter fun c => c != b } else d

/-- Make a peripheral's behaviour free where a condition holds. -/
def Devices.wildIf (d : Devices) (c : Bool) (b : Block) : Devices := if c then d.makeWild b else d

end Sys2Proof.Machine
end

