-- ==== Sys2Proof/Machine/Store.lean ====
section
/-! DEFINITION. The stored bytes of memory: what an unlisted address reads as, reading, writing, and the canonical form. -/

namespace Sys2Proof.Machine

/-- What an address that nothing has written reads as: erased flash FFH below F000H; RAM 00H after power-on (log entry 7),
and after a later reset a free byte (R935, U9). -/
def memDefault (epoch a : Nat) : Byte :=
  if a < 0xF000 then 0xFF else if epoch = 0 then 0x00 else Config.ramAfterReset epoch a

/-- The stored byte at an address. -/
def Memory.get (m : Memory) (a : Nat) : Byte := Cells.read (memDefault m.epoch) m.cells a

/-- Store a byte at an address. -/
def Memory.put (m : Memory) (a : Nat) (v : Byte) : Memory :=
  { m with cells := Cells.write (memDefault m.epoch) m.cells a v }

/-- The canonical form: addresses strictly rise and no entry equals what an unlisted address reads as. -/
def Memory.wf (m : Memory) : Bool := Cells.wf (memDefault m.epoch) m.cells

end Sys2Proof.Machine
end

