-- ==== Sys2Proof/Machine/Outputs.lean ====
section
/-! DEFINITION. What the peripherals put on their output pins, and which of them a pin carries (R455 to R466, R614, R639,
R770 to R781): the outputs of the timers, the real-time counter, the clock and buzzer output, the serial interfaces, the
Manchester code generator and the LCD controller. -/

namespace Sys2Proof.Machine

/-! ### Signals -/

/-- What an output function gives: nothing, so that the pin is a port pin; a level; the undivided clock of its source, whose
level between two of its clocks the state does not hold; or a level that nothing states. -/
inductive Signal where
  | off
  | level (high : Bool)
  | clock
  | unstated
  deriving DecidableEq, Repr

/-- A level where a function is enabled, else nothing. -/
def levelIf (c : Bool) (high : Bool) : Signal := if c then .level high else .off

/-- The output of a peripheral, not stated while its behaviour is free (U11). -/
def Devices.outputOf (d : Devices) (b : Block) (s : Signal) : Signal :=
  if s != .off && d.isWild b then .unstated else s

/-- The level of a pin that nothing states, in the present moment. -/
def Devices.openPin (d : Devices) (p : Nat × Nat) : Bool := Config.openPin d.moment p.1 p.2

/-! ### Timers -/

/-- TO00: low, and no function of the pin, while TOE00 = 0 (R530, R536). -/
def Devices.to00 (d : Devices) : Signal := d.outputOf .tm00 (levelIf (d.bit .TOC00 0) d.tm00.out)

/-- TO50; TOE50 = 0 disables it (R559, R564). -/
def Devices.to50 (d : Devices) : Signal := d.outputOf .tm50 (levelIf (d.bit .TMC50 0) d.tm50.out)

/-- TO51; TOE51 = 0 disables it (R559, R564). -/
def Devices.to51 (d : Devices) : Signal := d.outputOf .tm51 (levelIf (d.bit .TMC51 0) d.tm51.out)

/-- TOH0; TOEN0 = 0 disables it (R580, R582). -/
def Devices.toh0 (d : Devices) : Signal := d.outputOf .tmh0 (levelIf (d.bit .TMHMD0 0) d.tmh0.out)

/-- TOH1; TOEN1 = 0 disables it (R580, R583). -/
def Devices.toh1 (d : Devices) : Signal := d.outputOf .tmh1 (levelIf (d.bit .TMHMD1 0) d.tmh1.out)

/-- The level that TMH2 gives the TI52 input enable: TOH2 while the timer counts and its output is enabled (R547, R584). That it is low
with TMHE2 = 0 or TOEN2 = 0, and that TOH2 enables TI52 in interval mode too: DESIGN CHOICE, unsafe (log entry 158). -/
def Devices.toh2 (d : Devices) : Bool := d.bit .TMHMD2 7 && d.bit .TMHMD2 0 && d.tmh2.out

/-! ### Real-time counter (R614) -/

/-- RTC1HZ: one period a second, from the sub-count; its phase is not stated (log entry 70). While RTCE = 0 the level is not
stated. A change of RCLOE1 while RTCE = 1 switches the output at once and so may cut its pulse: DESIGN CHOICE, unsafe (R602; log
entry 167). -/
def Devices.rtc1hz (d : Devices) : Signal :=
  if !d.bit .RTCC0 5 then .off
  else if !d.bit .RTCC0 7 then .unstated
  else d.outputOf .rtc (.level (if (d.rdWord .RSUBC).toNat < 0x4000 then Config.rtcHalfSecond else !Config.rtcHalfSecond))

/-- RTCCL: fRTC itself (R602): fSUB, or fPRS divided by 2^7 or 2^8, whose level is a bit of the prescaler (R601; the phase: log
entry 70). A change of RCLOE0 while RTCE = 1 switches the output at once: DESIGN CHOICE, unsafe (R602; log entry 167). -/
def Devices.rtccl (d : Devices) : Signal :=
  if !d.bit .RTCC0 4 then .off
  else if !d.bit .RTCC0 7 then .unstated
  else
    d.outputOf .rtc <| match d.fieldOf .RTCCL 0 2 with
    | 1 => .level (d.pre.prs.getLsbD 6)
    | 2 => .level (d.pre.prs.getLsbD 7)
    | _ => .clock

/-- The bit of the divider that RTCDIV shows: fRTC/2^6 = 512 Hz, or with RCKDIV = 1 fRTC/2 = 16.384 kHz (R604). RCKDIV rewritten while
RTCDIV is output switches to the other bit at once: DESIGN CHOICE, unsafe (log entry 148). -/
def Devices.rtcdivBit (d : Devices) : Nat := if d.bit .RTCC2 5 then 0 else 5

/-- RTCDIV: the divided clock; after a stop it goes on for up to two fRTC clocks, and no function of the pin then makes it other
than low (R604). -/
def Devices.rtcdiv (d : Devices) : Signal :=
  if !d.bit .RTCC2 6 && d.rtc.tail = 0 then .off
  else if d.bit .RTCC0 7 then
    d.outputOf .rtc (.level (d.rtc.divider.getLsbD (if d.bit .RTCC2 6 then d.rtcdivBit else d.rtc.tailBit)))
  else .unstated

/-! ### Clock and buzzer output (R639, R640) -/

/-- The level of a clock output whose circuit divides its source: each period begins with its low half. -/
def ClockOut.level (c : ClockOut) : Bool := c.on && decide (1 ≤ c.divider) && c.count.getLsbD (c.divider - 1)

/-- The circuit after a low period: it begins a period of the selected clock where the output is enabled, and else rests. -/
def ClockOut.next (c : ClockOut) (enabled : Bool) (n : Nat) (sub : Bool) : ClockOut :=
  if enabled then ⟨true, 0, n, sub⟩ else { c with on := false, count := 0 }

/-- One clock of the source: the circuit counts on with the clock it began with, and after a stop or a change of the selected
clock until its high period is over. -/
def ClockOut.clock (c : ClockOut) (enabled : Bool) (n : Nat) (sub : Bool) : ClockOut :=
  if c.on then
    let c := { c with count := c.count + 1 }
    if c.level || (enabled && c.divider == n && c.sub == sub) then c else c.next enabled n sub
  else c

/-- The output is enabled or disabled: a stop in a low period ends it at once, one in a high period, which an undivided clock may
be in, when that is over. -/
def ClockOut.switch (c : ClockOut) (enabled : Bool) (n : Nat) (sub : Bool) : ClockOut :=
  if c.on && (enabled || c.level || c.divider == 0) then c else c.next enabled n sub

/-- The power of two by which BCS divides fPRS for BUZ. -/
def Devices.buzDivider (d : Devices) : Nat := 10 + d.fieldOf .CKS 5 2

/-- CCS selects the subsystem clock for PCL. -/
def Devices.pclOnSub (d : Devices) : Bool := d.fieldOf .CKS 0 4 = 8

/-- The power of two by which CCS divides the source clock for PCL: fPRS, or fSUB undivided. -/
def Devices.pclDivider (d : Devices) : Nat := if d.pclOnSub then 0 else d.fieldOf .CKS 0 4

/-- BUZ: low while it is stopped. -/
def Devices.buzOut (d : Devices) : Signal :=
  if d.isWild .buz then .unstated
  else levelIf d.buz.on d.buz.level

/-- PCL: low while it is stopped. -/
def Devices.pclOut (d : Devices) : Signal :=
  if d.isWild .pcl then .unstated
  else if d.pcl.on && d.pcl.divider == 0 then .clock
  else levelIf d.pcl.on d.pcl.level

/-! ### UART0 and UART6 -/

/-- The level of the transmit line: the bit being sent, high at rest. -/
def UartTx.line (t : UartTx) : Bool :=
  match t.bits with
  | b :: _ => b
  | [] => true

/-- The level of TxD0 (R698). -/
def Devices.txd0 (d : Devices) : Bool := d.tx0.line

/-- The level of TxD6, inverted with TXDLV6 = 1 (R719). -/
def Devices.txd6 (d : Devices) : Bool := d.tx6.line != d.bit .ASICL6 0

/-- TxD0 as an output. -/
def Devices.txd0Out (d : Devices) : Signal := d.outputOf .uart0 (.level d.txd0)

/-- TxD6 as an output. -/
def Devices.txd6Out (d : Devices) : Signal := d.outputOf .uart6 (.level d.txd6)

/-- UART0 may transmit, which makes its pin TxD0 (R696). -/
def Devices.sends0 (d : Devices) : Bool := d.bit .ASIM0 7 && d.bit .ASIM0 6

/-- UART6 may transmit, or is enabled and not set to reception only, which makes its pin TxD6 (R721, R727; log entry 44); with
TXDLV6 = 1 the pin is that always (R719). -/
def Devices.sends6 (d : Devices) : Bool :=
  (d.bit .ASIM6 7 && (d.bit .ASIM6 6 || !d.bit .ASIM6 5)) || d.bit .ASICL6 0

/-- UART6 is in operation stop mode: POWER6 = TXE6 = RXE6 = 0 (R697, R721). -/
def Devices.stopped6 (d : Devices) : Bool := d.fieldOf .ASIM6 5 3 == 0

/-- TxD on P13 with PF13 = 1: TxD0; in LC3, LD3 and LE3, where ISC5, ISC4 put TxD6 there, TxD6, and TxD0 only while UART6 is
stopped; a port pin while neither transmits, but for a transmission of UART6 that POWER6 = 0 has cut off, after which TxD6 stays
high (R456, R696, R714, R720, R721). -/
def Devices.txdP13 (d : Devices) : Signal :=
  let six := !d.series.isLf && d.fieldOf .ISC 4 2 == 2
  if six && d.sends6 then d.txd6Out
  else if d.sends0 then if six && !d.stopped6 then .unstated else d.txd0Out
  else if six && d.tx6.cut then d.txd6Out else .off

/-- TxD6 on P16 with PF16 = 1, where ISC5, ISC4 put it there; a port pin while it does not transmit and was not cut off (R456, R465,
R714, R720, R721). -/
def Devices.txdP16 (d : Devices) : Signal :=
  if d.fieldOf .ISC 4 2 != 1 then .unstated else if d.sends6 || d.tx6.cut then d.txd6Out else .off

/-- TxD6 on P112: while UART6 may transmit or was cut off, and with TXDLV6 = 1 always; ISC3 must be 1 for it (R462, R714, R719,
R721). -/
def Devices.txdP112 (d : Devices) : Signal :=
  if d.fieldOf .ISC 4 2 = 0 && (d.sends6 || d.tx6.cut) then if d.bit .ISC 3 then d.txd6Out else .unstated else .off

/-! ### CSI10 and CSIA0 -/

/-- The bit of a byte that goes out first (R743). -/
def firstBit (lsb : Bool) (v : Byte) : Bool := if lsb then v.getLsbD 0 else v.getLsbD 7

/-- The level of SCK10 as output: the idle level of the clock phase, changed by every edge (R744). -/
def Devices.sck10 (d : Devices) : Bool := (d.csi10.edges % 2 == 0) != d.bit .CSIC10 4

/-- SO10 as output: low in receive mode; in transmit mode the level of the last bit, or before the first transfer a free one (log entry
172); with CSIE10 = 0 low, or with DAP10 = 1 the first bit of SOTB10 (R747). -/
def Devices.so10 (d : Devices) : Bool :=
  if d.bit .CSIM10 7 then d.csi10.so && d.bit .CSIM10 6
  else d.bit .CSIM10 6 && d.bit .CSIC10 3 && firstBit (d.bit .CSIM10 4) (d.rd .SOTB10)

/-- SCK10 on P11 as master. With CSIE10 = 0 and CKP10 = 1 the pin cannot be used as a port (R745). -/
def Devices.sck10Out (d : Devices) : Signal :=
  if d.bit .CSIM10 7 then d.outputOf .csi10 (levelIf (d.fieldOf .CSIC10 0 3 != 7) d.sck10)
  else if d.bit .CSIC10 4 then .unstated else .off

/-- SO10 on P13: in transmit mode (R745, R747). Where CSI10 does not transmit P13 shows its latch also while CSIM10 and CSIC10 are not
00H, which the rules require for its use as a port: DESIGN CHOICE, unsafe (R455, R744; log entry 104). -/
def Devices.so10Out (d : Devices) : Signal :=
  d.outputOf .csi10 (levelIf (d.bit .CSIM10 6 && (d.bit .CSIM10 7 || d.bit .CSIC10 3)) d.so10)

/-- The level of SCKA0 as output: high at rest (R761). -/
def Devices.scka0 (d : Devices) : Bool := d.csia0.edges % 2 == 0

/-- The level of SOA0: low while transmission is disabled (R761), and free before the first transfer (log entry 172). -/
def Devices.soa0 (d : Devices) : Bool := d.csia0.so && d.bit .CSIMA0 7 && d.bit .CSIMA0 3

/-- SCKA0 on P14 as master (R769). -/
def Devices.scka0Out (d : Devices) : Signal :=
  d.outputOf .csia0 (levelIf (d.bit .CSIMA0 7 && d.bit .CSIMA0 4) d.scka0)

/-- SOA0 on P16 while transmission is enabled (R769). -/
def Devices.soa0Out (d : Devices) : Signal :=
  d.outputOf .csia0 (levelIf (d.bit .CSIMA0 7 && d.bit .CSIMA0 3) d.soa0)

/-! ### Manchester code generator -/

/-- The divisor k (R795). -/
def Devices.kMcg (d : Devices) : Nat := max 4 (d.fieldOf .MC0CTL2 0 5)

/-- MCGO: nothing in operation stop mode (R790); the suspend level MC0OLV between transfers, the data bit in bit sequential
mode, in Manchester mode one level in the first half of a bit and the other in the second (R793, R797, D26). In the two clocks before a
byte that came late it is the suspend level: DESIGN CHOICE, unsafe (R797; log entry 175). -/
def Devices.mcgo (d : Devices) : Signal :=
  if !d.bit .MC0CTL0 7 then .off
  else d.outputOf .mcg <|
    match d.mcg.bits with
    | [] => .level (d.bit .MC0CTL0 0)
    | b :: _ =>
      if d.bit .MC0CTL0 1 then .level b
      else .level ((b == Config.mcgOneFirstHalf (d.bit .MC0CTL0 0)) != decide (d.mcg.left ≤ d.kMcg))

/-! ### LCD controller -/

/-- What a segment or common pin outputs (R772, R776, R781): ground, its select or non-select level, a key scan level, or
something the spec does not state. -/
inductive LcdLevel where
  | ground | select | nonSelect
  | key (high : Bool)
  | unstated
  deriving DecidableEq, Repr

/-- The number of time slices of a display mode (R772). -/
def lcdSlices (mode : Nat) : Nat :=
  match mode with
  | 0 => 4 | 1 => 3 | 2 => 2 | 3 => 3 | 7 => 8 | _ => 1

/-- The number of display slices now. -/
def Devices.lcdCount (d : Devices) : Nat := lcdSlices (d.fieldOf .LCDM 0 3)

/-- LCD source clocks of one time slice (R773). -/
def Devices.lcdPeriod (d : Devices) : Nat := 2 ^ (4 + d.fieldOf .LCDC0 0 3)

/-- KSF: the segment key scan output period (R771). -/
def Devices.ksf (d : Devices) : Bool := d.bit .LCDMD 1

/-- The common signals of the mode: COM0 to COM3 in static mode, else one for each slice (R770, R778). -/
def Devices.commonUsed (d : Devices) (k : Nat) : Bool :=
  decide (k < if d.lcdCount = 1 then 4 else d.lcdCount)

/-- COMk has its pin: COM0 to COM3 always, COM4 to COM7 in 8-slice mode, where SEG0 to SEG3 give them theirs (R770). -/
def Devices.commonPin (d : Devices) (k : Nat) : Bool := decide (k < if d.lcdCount = 8 then 8 else 4)

/-- What COMk outputs: nothing where it has no pin; ground with SCOC = 0; in slice k its select level and else the non-select
level; in static mode COM0 to COM3 are alike; in the key scan period all are at the non-select level (R770, R772, R778). With
LCDON = 0 and SCOC = 1 this is the common waveform of R772, where step (7) of R779 has the non-select level: DESIGN CHOICE, unsafe (log
entry 189). The pins that the board leaves open, COM2 and COM3 with 2 slices and COM3 with 3, output nothing with SCOC = 1: DESIGN
CHOICE, unsafe (R772, R778; log entry 191). -/
def Devices.common (d : Devices) (k : Nat) : Option LcdLevel :=
  if !d.commonPin k then none
  else if !d.bit .LCDM 6 then some .ground
  else if !d.commonUsed k then none
  else if !d.ksf && (d.lcdCount == 1 || k == d.lcd.slice) then some .select else some .nonSelect

/-- The PF bit that makes the pins of a port, or the pin of port 2, segment outputs (R457, R458). -/
def Devices.segmentSelected (d : Devices) (p : Nat × Nat) : Bool :=
  match p.1 with
  | 2 => d.bit .PF2 p.2
  | 8 => d.bit .PFALL 0
  | 9 => d.bit .PFALL 1
  | 10 => d.bit .PFALL 2
  | 11 => d.bit .PFALL 3
  | 13 => d.bit .PFALL 4
  | 14 => d.bit .PFALL 5
  | 15 => d.bit .PFALL 6
  | _ => false

/-- The pin of a port is a segment output (R455, R457, R458, R460). -/
def Devices.segmentAt (d : Devices) (p : Nat × Nat) : Bool :=
  (pinSegment d.series p).isSome && d.segmentSelected p

/-- SEGn reaches a pin: SEG0 to SEG3, on the pins of COM4 to COM7, in every mode but 8-slice; another one where its port
pin is a segment output (R770). -/
def Devices.segmentUsed (d : Devices) (n : Nat) : Bool :=
  if n < 4 then d.lcdCount != 8
  else
    match segmentPin d.series n with
    | some p => d.segmentSelected p
    | none => false

/-- The level of KSi in the key scan period: P14 or P15, one bit for each half (R776). -/
def Devices.keySignal (d : Devices) (i : Nat) : Bool :=
  let half := if 2 * d.lcd.count < d.lcdPeriod then 0 else 4
  if i < 4 then d.bit .P14 (i + half) else d.bit .P15 (i - 4 + half)

/-- What SEGn outputs (R772, R776, R780): nothing where it reaches no pin; ground with SCOC = 0; with LCDON = 0 the non-select level;
in the key scan period the level of KSi on the eight key segments, on the others nothing that the spec states; else the level that
the display RAM bit of the slice chooses. With LCDON = 0 the key segments too are at the non-select level in the key scan period, as
R772 has it against R776: DESIGN CHOICE, unsafe (log entry 190). -/
def Devices.segment (d : Devices) (n : Nat) : Option LcdLevel :=
  if !d.segmentUsed n then none
  else if !d.bit .LCDM 6 then some .ground
  else if !d.bit .LCDM 7 then some .nonSelect
  else if d.ksf then
    let k := keySegment d.series
    if k ≤ n ∧ n < k + 8 then some (.key (d.keySignal (n - k))) else some .unstated
  else if (d.ram.get (0xFA40 + n)).getLsbD d.lcd.slice then some .select else some .nonSelect

/-- P40 is the VLC3 supply pin: with 1/4 bias (R772). -/
def Devices.vlc3 (d : Devices) : Bool := d.fieldOf .LCDM 0 3 == 7

/-! ### Which output a pin carries (R455, R462 to R465) -/

/-- The output functions of a pin, each with the latch value that its row of the tables requires, where it requires one. -/
def Devices.pinOutputs (d : Devices) (p : Nat × Nat) : List (Option Bool × Signal) :=
  match p with
  | (1, 0) => [(some false, d.pclOut)]
  | (1, 1) => [(some true, d.sck10Out)]
  | (1, 3) => if d.bit .PF1 3 then [(none, d.txdP13)] else [(some false, d.so10Out)]
  | (1, 4) => [(some true, d.scka0Out)]
  | (1, 6) => if d.bit .PF1 6 then [(none, d.txdP16)] else [(some false, d.soa0Out)]
  | (3, 1) => [(some false, d.toh1)]
  | (3, 2) => [(some false, d.toh0), (some false, d.mcgo)]
  | (3, 3) => [(some false, d.rtcdiv), (some false, d.rtccl), (some false, d.buzOut)]
  | (3, 4) => [(some false, d.to00), (some false, d.rtc1hz)]
  | (4, 3) => [(some false, d.to51)]
  | (4, 4) => [(some false, d.to50)]
  | (11, 2) => [(some true, d.txdP112)]
  | _ => []

/-- The level of a pin in output mode with a latch value: the latch where no output function is on; the level of the one that
is on where the latch is as its row requires; else a level that nothing states (R466, N18). -/
def Devices.outputLevel (d : Devices) (p : Nat × Nat) (latch : Bool) : Bool :=
  match (d.pinOutputs p).filter fun o => o.2 != .off with
  | [] => latch
  | [(need, .level b)] => if need = none ∨ need = some latch then b else d.openPin p
  | _ => d.openPin p

end Sys2Proof.Machine
end

