-- ==== Sys2Proof/Machine/Ports.lean ====
section
/-! DEFINITION. The ports (R450 to R471): the level at a pin, what a read of a port register gives, and the pins the
peripherals sample. -/

namespace Sys2Proof.Machine

/-- The port register Pm. -/
def portReg (m : Nat) : Option Sfr :=
  match m with
  | 1 => some .P1 | 2 => some .P2 | 3 => some .P3 | 4 => some .P4 | 8 => some .P8 | 9 => some .P9
  | 10 => some .P10 | 11 => some .P11 | 12 => some .P12 | 13 => some .P13 | 14 => some .P14 | 15 => some .P15
  | _ => none

/-- The port mode register PMm. -/
def modeReg (m : Nat) : Option Sfr :=
  match m with
  | 1 => some .PM1 | 2 => some .PM2 | 3 => some .PM3 | 4 => some .PM4 | 8 => some .PM8 | 9 => some .PM9
  | 10 => some .PM10 | 11 => some .PM11 | 12 => some .PM12 | 13 => some .PM13 | 14 => some .PM14 | 15 => some .PM15
  | _ => none

/-- The pull-up resistor option register PUm; port 2 has none (R453). -/
def pullReg (m : Nat) : Option Sfr :=
  match m with
  | 1 => some .PU1 | 3 => some .PU3 | 4 => some .PU4 | 8 => some .PU8 | 9 => some .PU9 | 10 => some .PU10
  | 11 => some .PU11 | 12 => some .PU12 | 13 => some .PU13 | 14 => some .PU14 | 15 => some .PU15
  | _ => none

/-- A bit of a register that may be absent. -/
def Devices.bitOf? (d : Devices) (r : Option Sfr) (n : Nat) (absent : Bool) : Bool :=
  match r with
  | some q => d.bit q n
  | none => absent

/-- The pin is in output mode: it has an output and its mode bit is 0 (R451). -/
def Devices.outputMode (d : Devices) (p : Pin) : Bool :=
  (portMask d.series p.1).getLsbD p.2 && !d.bitOf? (modeReg p.1) p.2 true

/-- The pull-up resistor of a key scan input is connected during the segment key scan output period (R777). -/
def Devices.keyScanPull (d : Devices) (p : Pin) : Bool :=
  d.bit .LCDMD 0 && d.bit .LCDMD 1
    && (List.range 8).any fun n => keyPin d.series n == some p && d.bit .KRM n

/-- Pin P2n is an analog input: ADPC0 makes it analog, it is in input mode and no segment output (R459, R460). -/
def Devices.analogPin (d : Devices) (n : Nat) : Bool :=
  d.fieldOf .ADPC0 0 4 ≤ n && d.bit .PM2 n && !d.bit .PF2 n

/-- The pin belongs to the LCD in either mode of the port: a segment output (R457, R458, R460), or P40 as VLC3 (R772). -/
def Devices.lcdPin (d : Devices) (p : Pin) : Bool := d.segmentAt p || (p == (4, 0) && d.vlc3)

/-- The pin is no digital input although its port is in input mode: an analog input of port 2 (R460), P113 while ISC3 = 0
(R720), P121 to P124 connected to a resonator (R491). -/
def Devices.inputClosed (d : Devices) (p : Pin) : Bool :=
  match p with
  | (2, n) => d.analogPin n
  | (11, 3) => !d.bit .ISC 3
  | (12, 1) | (12, 2) => d.fieldOf .OSCCTL 6 2 == 1
  | (12, 3) | (12, 4) => d.bit .OSCCTL 4
  | _ => false

/-- PF1 makes the pin a transmit output, so that it has no pull-up (R453, R456), also while its UART may not transmit and the pin is a
port pin by R696 and R721: DESIGN CHOICE, unsafe (log entry 121). -/
def Devices.transmitPin (d : Devices) (p : Pin) : Bool :=
  match p with
  | (1, 3) => d.bit .PF1 3
  | (1, 6) => d.bit .PF1 6
  | _ => false

/-- The level the outside world gives a pin in input mode (R453, R471): what drives it, or 1 where nothing drives it and a
pull-up is connected, or else whatever level the outside world leaves there. -/
def Devices.outsideLevel (d : Devices) (p : Pin) : Bool :=
  if (Cells.read (fun _ => 0) d.env.driven p.1).getLsbD p.2 then
    (Cells.read (fun _ => 0) d.env.level p.1).getLsbD p.2
  else
    (!d.transmitPin p && d.bitOf? (pullReg p.1) p.2 false) || d.keyScanPull p
      || (Cells.read (fun _ => 0) d.env.level p.1).getLsbD p.2

/-- The level at a pin (R452, R453, R466, R471): in output mode the latch or the output function of the pin; in input mode
what the outside world gives; a level that nothing states on a pin of the LCD and on one that is no digital input. -/
def Devices.pinLevel (d : Devices) (p : Pin) : Bool :=
  if d.lcdPin p then d.openPin p
  else if d.outputMode p then d.outputLevel p (d.bitOf? (portReg p.1) p.2 false)
  else if d.inputClosed p then d.openPin p
  else d.outsideLevel p

/-- The pin level as a program or peripheral reads it: P122 reads 0 while it is the external clock input (R452, R491). -/
def Devices.pinRead (d : Devices) (p : Pin) : Bool :=
  if p = (12, 2) ∧ d.fieldOf .OSCCTL 6 2 = 3 then false else d.pinLevel p

/-- Bit `n` of a read of port register Pm (R452): the latch in output mode, the pin in input mode and for P121 to P124, the
key scan bits of ports 14 and 15, 0 elsewhere. -/
def Devices.portBit (d : Devices) (m n : Nat) : Bool :=
  if d.outputMode (m, n) then d.bitOf? (portReg m) n false
  else if (portMask d.series m).getLsbD n || (m == 12 && 1 ≤ n && n ≤ 4) then d.pinRead (m, n)
  else if (latchMask d.series m).getLsbD n then d.bitOf? (portReg m) n false
  else false

/-- What a read of port register Pm gives (R452). -/
def Devices.portRead (d : Devices) (m : Nat) : Byte := ofBits ((List.range 8).map fun n => d.portBit m n)

/-! ### Pins the peripherals sample -/

/-- The pin that ISC5, ISC4 make RxD6 (R720). -/
def Devices.rxd6Pin (d : Devices) : Pin :=
  match d.fieldOf .ISC 4 2 with
  | 2 => (1, 2)
  | 1 => (1, 5)
  | _ => (11, 3)

/-- The level of RxD6; P113 is not accepted while ISC3 = 0, and nothing states the level then (R720). -/
def Devices.rxd6 (d : Devices) : Bool :=
  if d.rxd6Pin = (11, 3) ∧ d.bit .ISC 3 = false then d.openPin (11, 3) else d.pinRead d.rxd6Pin

/-- The level of RxD0 (R690). -/
def Devices.rxd0 (d : Devices) : Bool := d.pinRead (1, 2)

/-- The level of TI000: P33, or RxD6 when ISC1 = 1 (R530). -/
def Devices.ti000 (d : Devices) : Bool := if d.bit .ISC 1 then d.rxd6 else d.pinRead (3, 3)

/-- The level of TI010 (R530). -/
def Devices.ti010 (d : Devices) : Bool := d.pinRead (3, 4)

/-- The level of external interrupt input INTPn: the pin, or RxD6 for INTP0 when ISC0 = 1 (R410, R720). -/
def Devices.intp (d : Devices) (n : Nat) : Bool :=
  if n = 0 ∧ d.bit .ISC 0 = true then d.rxd6
  else
    match intpPin d.series n with
    | some p => d.pinRead p
    | none => false

/-- The level of key input KRn (R830), high where the pin is none: with 1/4 bias P40 is the VLC3 pin (R772), and with
PF13 = 1 P13 is a transmit output (R774). -/
def Devices.key (d : Devices) (n : Nat) : Bool :=
  match keyPin d.series n with
  | some p => (p == (4, 0) && d.vlc3) || d.transmitPin p || d.pinRead p
  | none => true

/-- The level of RIN (R455). -/
def Devices.rin (d : Devices) : Bool := d.pinRead (4, 1)

/-- The source of external interrupt INTPn. -/
def intpSource (n : Nat) : Source :=
  match n with
  | 0 => .p0 | 1 => .p1 | 2 => .p2 | 3 => .p3 | 4 => .p4 | _ => .p5

/-! ### Edges at the interrupt inputs -/

/-- A valid edge of INTPn between two states: rising where EGPn, falling where EGNn (R410). -/
def Devices.intpEdge (d before : Devices) (n : Nat) : Bool :=
  (d.bit .EGP n && !before.intp n && d.intp n) || (d.bit .EGN n && before.intp n && !d.intp n)

/-- Set PIFn for every valid edge (R410). -/
def Devices.intpEvents (d before : Devices) : Devices :=
  (List.range 6).foldl (fun e n => e.raiseIf (d.intpEdge before n) (intpSource n)) d

/-- The key inputs are accepted: always in ordinary use; with KSON = 1 from two LCD source clocks after the rise of KSF
until the last source clock of the period (R778). `left` counts the source clocks of the period still to come. -/
def Devices.keysOpen (d : Devices) : Bool :=
  if d.bit .LCDMD 0 then
    d.bit .LCDMD 1 && 2 ≤ d.lcd.count && d.lcd.count + 1 < d.lcdPeriod
  else true

/-- A falling edge on an enabled key input (R830), also while another one is low already: DESIGN CHOICE, unsafe (log entry
201). -/
def Devices.keyEdge (d before : Devices) : Bool :=
  d.keysOpen && (List.range 8).any fun n => d.bit .KRM n && before.key n && !d.key n

/-- KRIF is set by a falling edge on an enabled key input (R830). -/
def Devices.keyEvents (d before : Devices) : Devices := d.raiseIf (d.keyEdge before) .kr

end Sys2Proof.Machine
end

