-- ==== Sys2Proof/Machine/Timer00.lean ====
section
/-! DEFINITION. 16-bit timer/event counter 00 (R530 to R553): one count clock, edges at TI000 and TI010, and the writes of
its registers. A match is raised on the count clock that leaves the compared value, so an interval is the value plus one
(R539). -/

namespace Sys2Proof.Machine

/-- Refuse a write of a prohibited value by name (U11). -/
def refuseIf (c : Bool) (r : Sfr) (x : Res Devices) : Res Devices :=
  if c then .refused (.prohibitedSetting r) else x

/-- The supply is below 2.7 V and fPRS comes from the internal high-speed oscillator, where the undivided fPRS is prohibited
as a count or base clock (R537, R562, R582, R640, R717, R762, R794; log entry 73). -/
def Devices.slowSupply (d : Devices) : Bool := decide (d.env.vdd < 2700) && !d.bit .MCM 2

/-- The operation mode TMC003, TMC002: 0 stopped, 1 free-running, 2 clear and start on the TI000 edge, 3 clear and start on
the match with CR000 (R534). -/
def Devices.tm00Mode (d : Devices) : Nat := d.fieldOf .TMC00 2 2

/-- One-shot pulse output is selected; it does not work in clear & start on match mode (R536, R545). -/
def Devices.tm00OneShot (d : Devices) : Bool := d.bit .TOC00 5 && d.tm00Mode != 3

/-- The rising-edge and falling-edge validity that a two-bit edge code selects: 00 falling, 01 rising, 11 both (R537). -/
def validEdge (code : Nat) (old new : Bool) : Bool :=
  (code != 0 && !old && new) || (code != 1 && old && !new)

/-- The edge opposite in phase to the valid edge; none with both edges selected (R532, R535). -/
def reverseEdge (code : Nat) (old new : Bool) : Bool :=
  (code == 0 && !old && new) || (code == 1 && old && !new)

/-- Invert TO00. -/
def Devices.tm00Toggle (d : Devices) : Devices := { d with tm00 := { d.tm00 with out := !d.tm00.out } }

/-- Invert TO00 where a match does; in one-shot mode only while a triggered pulse has inversions left (R536, R545). The
flip-flop inverts also while TOE00 = 0, which only fixes the output low, so TOE00 = 1 later shows it: DESIGN CHOICE, unsafe
(R536; log entry 98). -/
def Devices.tm00Invert (d : Devices) (c : Bool) : Devices :=
  if c then
    if d.tm00OneShot then
      if d.tm00.shots = 0 then d
      else { d.tm00Toggle with tm00 := { d.tm00Toggle.tm00 with shots := d.tm00.shots - 1 } }
    else d.tm00Toggle
  else d

/-- The count changes; the read buffer may still hold the one or two counts before (R531). -/
def Tm00.buffer (t : Tm00) (c : Word) : Tm00 := { t with last := c, last2 := t.last }

/-- Clear TM00 by an edge or trigger (R531). One that finds FFFFH does not set OVF00: DESIGN CHOICE, unsafe (R534; log entry 163). -/
def Devices.tm00Clear (d : Devices) : Devices :=
  let e := d.wrWord .TM00 0
  { e with tm00 := { e.tm00.buffer (d.rdWord .TM00) with fresh := false } }

/-- A trigger of the one-shot pulse: TM00 clears, and the next two matches invert TO00. A further trigger while the pulse is
being output, which the rule forbids, does the same: DESIGN CHOICE, unsafe (R536, R545; log entry 71). -/
def Devices.tm00Shot (d : Devices) : Devices :=
  let e := d.tm00Clear
  { e with tm00 := { e.tm00 with shots := 2 } }

/-- The next count clock: interrupts of the captures made at the last one (R535), and the end of the wait after a rewrite of CR010
(R552). -/
def Devices.tm00Pending (d : Devices) : Devices :=
  let e := (d.raiseIf d.tm00.pend000 .tm000).raiseIf d.tm00.pend010 .tm010
  { e with tm00 := { e.tm00 with pend000 := false, pend010 := false, rewritten := false } }

/-- One count (R531, R533, R534): the matches of the value being left, the clear on a CR000 match in mode 3, overflow,
inversion of TO00. With a compare value of 0000H there is no match before the counter has been cleared once (R533). The
first clock of an external count clock is not counted (R541, R547). Compare values that the rules of PPG and one-shot output rule
out are counted as they stand: with CR010 = CR000 both inversions come at one clock, so TO00 shows no pulse, and a CR010 above
CR000 never matches in clear & start mode: DESIGN CHOICE, unsafe (R544, R545; log entry 99). -/
def Devices.tm00Count (d : Devices) : Devices :=
  if d.tm00.skip then { d with tm00 := { d.tm00 with skip := false } }
  else
    let c := d.rdWord .TM00
    let live := !(c == 0 && d.tm00.fresh)
    let match0 := !d.bit .CRC00 0 && c == d.rdWord .CR000 && live
    let match1 := !d.bit .CRC00 2 && c == d.rdWord .CR010 && live
    let next : Word := if d.tm00Mode = 3 && match0 then 0 else c + 1
    let overflow := c == 0xFFFF && next == 0
    let e := { d with tm00 := { d.tm00.buffer c with
      fresh := d.tm00.fresh && next != 0, ovfOpen := overflow } }
    let e := e.wrWord .TM00 next
    let e := if overflow then e.putBit .TMC00 0 true else e
    let e := (e.raiseIf match0 .tm000).raiseIf match1 .tm010
    (e.tm00Invert (match0 && e.bit .TOC00 1)).tm00Invert (match1 && e.bit .TOC00 4)

/-- A valid edge of TI000 (R531, R533, R534, R542, R543, R545): capture into CR010, clear in mode 2, the one-shot trigger, and the
inversion of TO00 that TMC001 selects. -/
def Devices.tm00ValidEdge0 (d : Devices) : Devices :=
  let e := if d.bit .CRC00 2 then
      let e := d.wrWord .CR010 (d.rdWord .TM00)
      { e with tm00 := { e.tm00 with pend010 := true } }
    else d
  let e := if e.tm00OneShot then e.tm00Shot else if e.tm00Mode = 2 then e.tm00Clear else e
  if e.bit .TMC00 1 then e.tm00Toggle else e

/-- The edge of TI000 opposite to its valid edge captures into CR000 without an interrupt (R532). -/
def Devices.tm00ReverseEdge0 (d : Devices) : Devices :=
  if d.bit .CRC00 0 && d.bit .CRC00 1 then d.wrWord .CR000 (d.rdWord .TM00) else d

/-- A valid edge of TI010: with CR000 a capture register it captures (CRC001 = 0) and gives INTTM000 (R532). -/
def Devices.tm00ValidEdge1 (d : Devices) : Devices :=
  if d.bit .CRC00 0 then
    let e := if d.bit .CRC00 1 then d else d.wrWord .CR000 (d.rdWord .TM00)
    { e with tm00 := { e.tm00 with pend000 := true } }
  else d

/-- Sample TI000: the accepted level follows when two samples agree (R538). Gives the old and new accepted level. -/
def Devices.tm00Sample0 (d : Devices) : Bool × Devices :=
  let s := d.ti000
  let level := if s == d.tm00.samp0 then s else d.tm00.level0
  (level, { d with tm00 := { d.tm00 with samp0 := s, level0 := level } })

/-- Sample TI010 (R538). -/
def Devices.tm00Sample1 (d : Devices) : Bool × Devices :=
  let s := d.ti010
  let level := if s == d.tm00.samp1 then s else d.tm00.level1
  (level, { d with tm00 := { d.tm00 with samp1 := s, level1 := level } })

/-- TI000 as a capture and clear trigger, sampled by the count clock (R538). With CRC001 = 1 and both edges valid, R535 says that
the valid edge cannot be detected and R533 that CRC001 has no effect on CR010: here it is then no trigger for CR000 but still one
for CR010, the clear and TO00: DESIGN CHOICE, unsafe (log entry 97). -/
def Devices.tm00Trigger0 (d : Devices) : Devices :=
  let old := d.tm00.level0
  let (new, e) := d.tm00Sample0
  let code := e.fieldOf .PRM00 4 2
  let e := if reverseEdge code old new then e.tm00ReverseEdge0 else e
  if validEdge code old new then e.tm00ValidEdge0 else e

/-- TI010 as a capture trigger, sampled by the count clock (R538). -/
def Devices.tm00Trigger1 (d : Devices) : Devices :=
  let old := d.tm00.level1
  let (new, e) := d.tm00Sample1
  if validEdge (e.fieldOf .PRM00 6 2) old new then e.tm00ValidEdge1 else e

/-- One clock of a count clock other than TI000: interrupts of earlier captures, the count, then the triggers (R535). Where edges of
TI000 and TI010 are accepted at the same clock that of TI000 comes first, so in clear & start mode on its edge CR000 captures
0000H: DESIGN CHOICE, unsafe (R542; log entry 107). A timer with free behaviour does not follow its clock (U11). -/
def Devices.tm00Clock (d : Devices) : Devices :=
  if d.tm00Mode = 0 || d.isWild .tm00 then d else ((d.tm00Pending.tm00Count).tm00Trigger0).tm00Trigger1

/-- A valid edge of TI000 as count clock (R537): the count, then what a valid edge does beside, so the edge that triggers a one-shot
pulse is not counted in it: DESIGN CHOICE, unsafe (R531, R534, R545; log entry 116). A timer with free behaviour does not follow it
(U11). -/
def Devices.tm00ExternalEdge (d : Devices) : Devices :=
  if d.isWild .tm00 then d else ((d.tm00Pending.tm00Count).tm00ValidEdge0).tm00Trigger1

/-- With TI000 as count clock the pin is sampled by fPRS and each valid edge is one count (R537, R538, R541). -/
def Devices.tm00External (d : Devices) : Devices :=
  if d.tm00Mode = 0 || d.fieldOf .PRM00 0 3 != 6 then d
  else
    let old := d.tm00.level0
    let (new, e) := d.tm00Sample0
    if validEdge (e.fieldOf .PRM00 4 2) old new then e.tm00ExternalEdge else e

/-- With TI000 as count clock the timer counts in STOP mode too, where no fPRS samples the pin: each valid edge of the pin
itself is one count (R848). -/
def Devices.tm00StopEvent (d before : Devices) : Devices :=
  if d.mode != .stop || d.tm00Mode = 0 || d.fieldOf .PRM00 0 3 != 6 then d
  else
    let e := { d with tm00 := { d.tm00 with samp0 := d.ti000, level0 := d.ti000 } }
    if validEdge (d.fieldOf .PRM00 4 2) before.ti000 d.ti000 then e.tm00ExternalEdge else e

/-- What a read of TM00 gives: 0000H while it is stopped; else the count, or what the read buffer still holds: the count
before, or the one before that (R531; log entry 72). -/
def Devices.readTm00 (d : Devices) : Word × Devices :=
  if d.tm00Mode = 0 then (d.rdWord .TM00, d)
  else
    let (now, e) := d.drawBit
    let (one, e) := e.drawBit
    (if now then e.rdWord .TM00 else if one then e.tm00.last else e.tm00.last2, e)

/-- A trigger of a capture into CR000 has arrived and its capture or interrupt is still to come; with CRC001 = 1 an edge of TI010
is none (R532, R535, R546). -/
def Devices.tm00Capturing0 (d : Devices) : Bool :=
  d.tm00Mode != 0 && d.bit .CRC00 0 &&
    if d.bit .CRC00 1 then reverseEdge (d.fieldOf .PRM00 4 2) d.tm00.level0 d.ti000
    else d.tm00.pend000 || validEdge (d.fieldOf .PRM00 6 2) d.tm00.level1 d.ti010

/-- A trigger of a capture into CR010 has arrived and its capture or interrupt is still to come (R533, R535, R546). -/
def Devices.tm00Capturing1 (d : Devices) : Bool :=
  d.tm00Mode != 0 && d.bit .CRC00 2
    && (d.tm00.pend010 || validEdge (d.fieldOf .PRM00 4 2) d.tm00.level0 d.ti000)

/-- What a read of a capture/compare register gives: while a capture trigger arrives, a value that is not guaranteed (R546). -/
def Devices.readCapture (d : Devices) (capturing : Bool) (r : Sfr) : Word × Devices :=
  if capturing then d.drawWord else (d.rdWord r, d)

/-- Which power of two divides fPRS to give the count clock of TM00, where it is a divided fPRS (R537). -/
def tm00Tap (sel : Nat) : Option Nat :=
  match sel with
  | 0 => some 0 | 1 => some 1 | 2 => some 2 | 3 => some 4 | 4 => some 8 | _ => none

/-! ### Writes -/

/-- Free the capture registers when the timer stops: their values are not guaranteed then (R546). -/
def Devices.tm00FreeCaptures (d : Devices) : Devices :=
  let e := if d.bit .CRC00 0 then let (w, e) := d.drawWord; e.wrWord .CR000 w else d
  if e.bit .CRC00 2 then let (w, e) := e.drawWord; e.wrWord .CR010 w else e

/-- Stop TM00: the counter and OVF00 clear (R534). -/
def Devices.tm00Stop (d : Devices) : Devices :=
  let e := (d.tm00FreeCaptures.wrWord .TM00 0).tame .tm00
  { e with tm00 := { e.tm00 with
      pend000 := false, pend010 := false, shots := 0, fresh := true, skip := false, ovfOpen := false,
      rewritten := false, stopped := true, last := 0, last2 := 0 } }

/-- Start TM00 from 0000H. A high pin is detected as a rising edge at the first start after reset; when the timer starts
again after a stop, the pin levels of that moment give no edge (R537). -/
def Devices.tm00Start (d : Devices) : Devices :=
  let e := d.wrWord .TM00 0
  let t := { e.tm00 with
    fresh := true, skip := 6 ≤ e.fieldOf .PRM00 0 3, ovfOpen := false, shots := 0, last := 0, last2 := 0 }
  { e with tm00 := if t.stopped then
      { t with samp0 := d.ti000, level0 := d.ti000, samp1 := d.ti010, level1 := d.ti010 } else t }

/-- A combination of settings that is prohibited while TM00 operates: CR000 as capture register, or 0000H as compare value,
in clear & start on match mode (R535, R539, R541); TI000 as count clock together with clear & start on its edge or with a
capture that it triggers (R537, R542). TI000 as count clock together with captures of TI010 into CR000, which R537 and R546 rule out for
pulse-width measurement, is carried out, and TI010 is sampled at each edge of TI000: DESIGN CHOICE, unsafe (log entry 145). -/
def Devices.tm00Prohibited (d : Devices) : Bool :=
  let mode := d.tm00Mode
  let crc := d.rd .CRC00
  (mode = 3 && (crc.getLsbD 0 || d.rdWord .CR000 == 0))
    || (mode != 0 && d.fieldOf .PRM00 0 3 = 6 && (mode = 2 || crc.getLsbD 2 || (crc.getLsbD 0 && crc.getLsbD 1)))

/-- Write TMC00 (R534). Clearing OVF00 before the count clock after an overflow is void. OVF00 written 1 while the timer operates,
which sets the flag but is not among the permitted rewrites, sets it and leaves the timer as it is: DESIGN CHOICE, unsafe (log entry
117); written 1 with TMC003, TMC002 = 00, it stays 0: DESIGN CHOICE, unsafe (log entry 164). A start on the TI000 clock while the CPU
is on the subsystem clock with both main clocks stopped, which R508 and R537 rule out, is carried out, and nothing is counted as
long as no fPRS samples the pin: DESIGN CHOICE, unsafe (log entry 96). -/
def Devices.writeTmc00 (d : Devices) (v : Byte) : Res Devices :=
  let new := v &&& 0x0F
  let oldMode := d.tm00Mode
  let mode := field v 2 2
  let e := d.wr .TMC00 new
  let starts := mode != 0 && oldMode = 0
  refuseIf (e.tm00Prohibited || (starts && d.fieldOf .PRM00 0 3 = 0 && d.slowSupply)) .TMC00 <|
    if mode = 0 then
      .next (((if oldMode = 0 then d else d.tm00Stop).wr .TMC00 (setBit new 0 false)))
    else if starts then .next e.tm00Start
    else
      let ovf := v.getLsbD 0 || (d.tm00.ovfOpen && d.bit .TMC00 0)
      .next ((d.wildIf (differs 0x0E v (d.rd .TMC00)) .tm00).wr .TMC00 (setBit new 0 ovf))

/-- Write CRC00 (R535). -/
def Devices.writeCrc00 (d : Devices) (v : Byte) : Res Devices :=
  let e := (d.wildIf (d.tm00Mode != 0 && differs 0x07 v (d.rd .CRC00)) .tm00).wr .CRC00 (v &&& 0x07)
  refuseIf e.tm00Prohibited .CRC00 (.next e)

/-- Write PRM00; the edge code 10 is prohibited, and the undivided fPRS on a slow supply (R537). -/
def Devices.writePrm00 (d : Devices) (v : Byte) : Res Devices :=
  let e := (d.wildIf (d.tm00Mode != 0 && differs 0xF7 v (d.rd .PRM00)) .tm00).wr .PRM00 (v &&& 0xF7)
  refuseIf (field v 6 2 = 2 || field v 4 2 = 2 || (field v 0 3 = 0 && d.slowSupply) || e.tm00Prohibited) .PRM00 (.next e)

/-- The effect of LVS00, LVR00 on TO00: valid while TOE00 = 1 and the timer is stopped, else a free level (R536). -/
def Devices.tm00Level (d : Devices) (v : Byte) (settled : Bool) : Devices :=
  if field v 2 2 = 0 then d
  else if settled then { d with tm00 := { d.tm00 with out := v.getLsbD 3 } }
  else let (b, e) := d.drawBit; { e with tm00 := { e.tm00 with out := b } }

/-- The effect of OSPT00: a trigger while the timer operates; set in another mode it makes the running timer's behaviour
free, and has no effect on a stopped one (R415, R536, R545; log entry 71). -/
def Devices.tm00Shoot (d : Devices) (v : Byte) : Devices :=
  if v.getLsbD 6 && d.tm00Mode != 0 then if d.tm00OneShot then d.tm00Shot else d.makeWild .tm00 else d

/-- Write TOC00 (R536). While the timer runs only OSPT00 may change, and TOC004 in the procedure of R552, with TMMK010 = 1 and, set
again, not before the count clock after a rewrite of CR010. TOC001 or TOC004 set together with TOE00 or after it, against the
setting order of R536, takes effect as written: DESIGN CHOICE, unsafe (log entry 106). TO00 enabled while captures are in use that rule
it out (R542, R546) is output all the same: DESIGN CHOICE, unsafe (log entry 157). -/
def Devices.writeToc00 (d : Devices) (v : Byte) : Res Devices :=
  refuseIf (field v 2 2 = 3) .TOC00 <|
    let running := d.tm00Mode != 0
    let settled := d.bit .TOC00 0 && !running
    let early := d.tm00.rewritten && v.getLsbD 4 && !d.bit .TOC00 4
    let other := differs (if d.bit .MK0H 7 then 0x23 else 0x33) v (d.rd .TOC00) || field v 2 2 != 0
    let e := d.wildIf (running && (early || other)) .tm00
    let e := e.wr .TOC00 (v &&& 0x33)
    .next ((e.tm00Level v settled).tm00Shoot v)

/-- Write CR000; while the timer runs a different value makes its behaviour free (R532, R552). -/
def Devices.writeCr000 (d : Devices) (v : Word) : Res Devices :=
  let e := (d.wildIf (d.tm00Mode != 0 && v != d.rdWord .CR000) .tm00).wrWord .CR000 v
  refuseIf e.tm00Prohibited .CR000 (.next e)

/-- Write CR010; while the timer runs a different value is allowed with TOC004 = 0 and TMMK010 = 1 only (R552). One
written so, but not right after the match that the rule names, is counted with as it stands: DESIGN CHOICE, unsafe (log entry 118). -/
def Devices.writeCr010 (d : Devices) (v : Word) : Res Devices :=
  let allowed := d.tm00Mode = 0 || v == d.rdWord .CR010 || (!d.bit .TOC00 4 && d.bit .MK0H 7)
  let e := (d.wildIf (!allowed) .tm00).wrWord .CR010 v
  .next { e with tm00 := { e.tm00 with rewritten := d.tm00Mode != 0 } }

end Sys2Proof.Machine
end

