-- ==== Sys2Proof/Machine/Timers8.lean ====
section
/-! DEFINITION. 8-bit timer/event counters 50 to 52 (R559 to R569) and 8-bit timers H0 to H2 (R580 to R588): one count
clock of each, and the writes of their registers. A match is raised on the count clock that leaves the compared value. -/

namespace Sys2Proof.Machine

/-- Which of the three channels. -/
inductive Ch3 where
  | n0 | n1 | n2
  deriving DecidableEq, Repr

/-! ### The registers of a channel -/

/-- TM5n. -/
def tm5Counter : Ch3 → Sfr
  | .n0 => .TM50 | .n1 => .TM51 | .n2 => .TM52

/-- CR5n. -/
def tm5Compare : Ch3 → Sfr
  | .n0 => .CR50 | .n1 => .CR51 | .n2 => .CR52

/-- TMC5n. -/
def tm5Control : Ch3 → Sfr
  | .n0 => .TMC50 | .n1 => .TMC51 | .n2 => .TMC52

/-- TCL5n. -/
def tm5Select : Ch3 → Sfr
  | .n0 => .TCL50 | .n1 => .TCL51 | .n2 => .TCL52

/-- INTTM5n. -/
def tm5Source : Ch3 → Source
  | .n0 => .tm50 | .n1 => .tm51 | .n2 => .tm52

/-- The block name of timer 5n. -/
def tm5Block : Ch3 → Block
  | .n0 => .tm50 | .n1 => .tm51 | .n2 => .tm52

/-- The hidden state of timer 5n. -/
def Devices.tm5 (d : Devices) : Ch3 → Tm5
  | .n0 => d.tm50 | .n1 => d.tm51 | .n2 => d.tm52

/-- Put back the hidden state of timer 5n. -/
def Devices.putTm5 (d : Devices) (i : Ch3) (t : Tm5) : Devices :=
  match i with
  | .n0 => { d with tm50 := t } | .n1 => { d with tm51 := t } | .n2 => { d with tm52 := t }

/-- TMHMDn. -/
def tmhControl : Ch3 → Sfr
  | .n0 => .TMHMD0 | .n1 => .TMHMD1 | .n2 => .TMHMD2

/-- CMP0n. -/
def tmhCompare0 : Ch3 → Sfr
  | .n0 => .CMP00 | .n1 => .CMP01 | .n2 => .CMP02

/-- CMP1n. -/
def tmhCompare1 : Ch3 → Sfr
  | .n0 => .CMP10 | .n1 => .CMP11 | .n2 => .CMP12

/-- INTTMHn. -/
def tmhSource : Ch3 → Source
  | .n0 => .tmh0 | .n1 => .tmh1 | .n2 => .tmh2

/-- The block name of timer Hn. -/
def tmhBlock : Ch3 → Block
  | .n0 => .tmh0 | .n1 => .tmh1 | .n2 => .tmh2

/-- The hidden state of timer Hn. -/
def Devices.tmh (d : Devices) : Ch3 → TmH
  | .n0 => d.tmh0 | .n1 => d.tmh1 | .n2 => d.tmh2

/-- Put back the hidden state of timer Hn. -/
def Devices.putTmh (d : Devices) (i : Ch3) (t : TmH) : Devices :=
  match i with
  | .n0 => { d with tmh0 := t } | .n1 => { d with tmh1 := t } | .n2 => { d with tmh2 := t }

/-! ### Timers 50, 51, 52 -/

/-- Timer 5n counts: TCE5n (R564, R565). -/
def Devices.tm5On (d : Devices) (i : Ch3) : Bool := d.bit (tm5Control i) 7

/-- PWM mode: TMC5n6, which channel 2 does not have (R564, R565). -/
def Devices.tm5Pwm (d : Devices) (i : Ch3) : Bool := d.bit (tm5Control i) 6

/-- TMH1 is in carrier generator mode, running (R588). -/
def Devices.carrierMode (d : Devices) : Bool := d.bit .TMHMD1 7 && d.fieldOf .TMHMD1 2 2 = 1

/-- The match of timer 51 in carrier generator mode waits for the TMH1 count clock (R585, R588). With a TMH1 count clock that is
less than six times as fast as that of timer 51, which R583 rules out, a later match takes the place of one that still waits:
DESIGN CHOICE, unsafe (log entry 101). Outside carrier generator mode, to which R585 does not limit it, no NRZB1 is transferred:
DESIGN CHOICE, unsafe (log entry 130). -/
def Devices.tm51Match (d : Devices) : Devices :=
  if d.carrierMode then { d with tmh1 := { d.tmh1 with nrzWait := some 3 } } else d.raise .tm51

/-- The interrupt of a match of timer 5n. -/
def Devices.tm5Match (d : Devices) (i : Ch3) : Devices :=
  match i with
  | .n1 => d.tm51Match
  | _ => d.raise (tm5Source i)

/-- The count changes; the read buffer may still hold the one or two counts before (R560). -/
def Tm5.buffer (t : Tm5) (c : Byte) : Tm5 := { t with last := c, last2 := t.last }

/-- A count clock in PWM mode (R561, R569): at the overflow the output becomes active, at the compare value inactive; the
compare value is taken over at the overflow if it was written before the count became FFH. Rewrites of CR5n less than three
count clocks apart, which the rule forbids, are taken as they stand: DESIGN CHOICE, unsafe (log entry 75). -/
def Devices.tm5PwmClock (d : Devices) (i : Ch3) : Devices :=
  let t := (d.tm5 i).buffer (d.rd (tm5Counter i))
  let activeLevel := !d.bit (tm5Control i) 1
  let next := d.rd (tm5Counter i) + 1
  let t := if next == 0xFF then { t with crNext := d.rd (tm5Compare i) } else t
  let t := if next == 0 then { t with crUsed := t.crNext } else t
  let t :=
    if next == 0 && t.crUsed != 0 then { t with out := activeLevel }
    else if next == t.crUsed then { t with out := !activeLevel } else t
  (d.putTm5 i t).wr (tm5Counter i) next

/-- What a match of timer 5n does outside it: its interrupt, and a count clock of TM00 where PRM00 selects timer 52 (R547). -/
def Devices.tm5Hit (d : Devices) (i : Ch3) : Devices :=
  let e := d.tm5Match i
  if i = .n2 && e.fieldOf .PRM00 0 3 = 7 then e.tm00Clock else e

/-- A count clock in clear and start mode (R566, R568): at the match the counter clears, INTTM5n is raised and the
flip-flop inverts if enabled. -/
def Devices.tm5PlainClock (d : Devices) (i : Ch3) : Devices :=
  let t := (d.tm5 i).buffer (d.rd (tm5Counter i))
  if d.rd (tm5Counter i) == d.rd (tm5Compare i) then
    ((d.putTm5 i { t with out := t.out != d.bit (tm5Control i) 1 }).wr (tm5Counter i) 0).tm5Hit i
  else (d.putTm5 i t).wr (tm5Counter i) (d.rd (tm5Counter i) + 1)

/-- One count clock of timer 5n. -/
def Devices.tm5Clock (d : Devices) (i : Ch3) : Devices :=
  if d.tm5On i then if d.tm5Pwm i then d.tm5PwmClock i else d.tm5PlainClock i else d

/-- A count clock comes to timer 5n, which one with free behaviour does not follow (U11). -/
def Devices.tm5Tick (d : Devices) (i : Ch3) : Devices := if d.isWild (tm5Block i) then d else d.tm5Clock i

/-- What a read of TM5n gives: the count, or while it counts what the read buffer still holds: the count before, or the one
before that (R560; log entry 72). -/
def Devices.readTm5 (d : Devices) (i : Ch3) : Byte × Devices :=
  if d.tm5On i then
    let (now, e) := d.drawBit
    let (one, e) := e.drawBit
    (if now then e.rd (tm5Counter i) else if one then (e.tm5 i).last else (e.tm5 i).last2, e)
  else (d.rd (tm5Counter i), d)

/-- Which power of two divides fPRS for timer 5n, where it does (R562, R563). -/
def tm5Tap (i : Ch3) (sel : Nat) : Option Nat :=
  match sel with
  | 2 => some 0
  | 3 => some 1
  | 4 => match i with
    | .n0 => some 2
    | _ => some 4
  | 5 => some 6
  | 6 => some 8
  | 7 => match i with
    | .n0 => some 13
    | .n1 => none
    | .n2 => some 12
  | _ => none

/-- The pin TI5n, where the product has it: TI50 and TI51 in LE3 and LF3 only (R559). -/
def ti5Pin (s : Series) (i : Ch3) : Option Pin :=
  match i with
  | .n0 => if s.isLeLf then some (4, 4) else none
  | .n1 => if s.isLeLf then some (4, 3) else none
  | .n2 => some (3, 4)

/-- A counted edge at TI5n. With ISC2 = 1 an edge at TI52 counts while the synchronised enable is high; the synchroniser takes
over the level of TOH2 at every edge of TI52, so an edge is counted or lost at each change of the enable (R547). -/
def Devices.ti5Count (d : Devices) (i : Ch3) : Devices :=
  match i with
  | .n2 =>
    let e := { d with tm52 := { d.tm52 with gate := d.toh2 } }
    if d.bit .ISC 2 && !d.tm52.gate then e else e.tm5Tick .n2
  | _ => d.tm5Tick i

/-- Edges of TI5n between two states clock timer 5n while it counts: falling with TCL5n = 0, rising with 1 (R562, R563,
R567). -/
def Devices.ti5Event (d before : Devices) (i : Ch3) : Devices :=
  if d.tm5On i && d.fieldOf (tm5Select i) 0 3 < 2 then
    match ti5Pin d.series i with
    | none => d
    | some p =>
      let old := before.pinRead p
      let new := d.pinRead p
      if old != new && new == d.bit (tm5Select i) 0 then d.ti5Count i else d
  else d

/-- Write CR5n: in clear and start mode a different value while counting makes the behaviour free (R561), but for timer 51 in carrier
generator mode, where R588 has software write the next CR51 after each INTTM51: there it takes effect at once, whenever it is written:
DEDUCED, unsafe (log entry 132). -/
def Devices.writeCr5 (d : Devices) (i : Ch3) (v : Byte) : Res Devices :=
  let r := tm5Compare i
  let next := decide (i = .n1) && d.carrierMode
  .next ((d.wildIf (d.tm5On i && !d.tm5Pwm i && !next && v != d.rd r) (tm5Block i)).wr r v)

/-- Write TCL5n (R562, R563); the undivided fPRS is prohibited on a slow supply. -/
def Devices.writeTcl5 (d : Devices) (i : Ch3) (v : Byte) : Res Devices :=
  let r := tm5Select i
  let noPin := i != .n2 && !d.series.isLeLf && field v 0 3 < 2
  refuseIf ((i != .n2 && outside 0x07 v) || noPin || (field v 0 3 = 2 && d.slowSupply)) r <|
    .next ((d.wildIf (d.tm5On i && differs 0x07 v (d.rd r)) (tm5Block i)).wr r (v &&& 0x07))

/-- The bits TMC5n holds on the product; LVS5n and LVR5n read 0 (R564, R565). -/
def tmc5Mask (s : Series) (i : Ch3) : Byte :=
  match i with
  | .n0 => if s.isLeLf then 0xC3 else 0x82
  | .n1 => if s.isLeLf then 0xC3 else 0x80
  | .n2 => 0x80

/-- The bits of TMC5n that must be 0 on the product (R564, R565). -/
def tmc5Zero (s : Series) (i : Ch3) : Byte :=
  match i with
  | .n0 => 0x30
  | .n1 => if s.isLeLf then 0x30 else 0x7F
  | .n2 => 0x7F

/-- Start or stop of timer 5n by TCE5n (R560, R564): stopping clears the counter and, in PWM mode, makes the output
inactive. A match of timer 51 that waits for timer H1 still gives INTTM51: DESIGN CHOICE, unsafe (R401, R585; log entry 120). -/
def Devices.tm5Start (d : Devices) (i : Ch3) (on : Bool) : Devices :=
  let t := { d.tm5 i with last := 0, last2 := 0, gate := false }
  if on then d.putTm5 i { t with crUsed := d.rd (tm5Compare i), crNext := d.rd (tm5Compare i) }
  else
    let e := (d.wr (tm5Counter i) 0).tame (tm5Block i)
    if e.tm5Pwm i then e.putTm5 i { t with out := e.bit (tm5Control i) 1 } else e.putTm5 i t

/-- Write TMC5n (R564, R565): while counting, only TCE5n may change. A start is refused on the undivided fPRS on a slow supply,
and on TI50 or TI51 where the product has no such pin (R562). Bits that the setting order of R564 keeps apart take effect
together where one write sets them: DESIGN CHOICE, unsafe (log entry 100). Bits changed by the write that stops the timer: log entry 168. A start on TI5n while the CPU is on the subsystem clock
with both main clocks stopped, which R508 and R562 rule out, is carried out, and the edges are counted: DESIGN CHOICE, unsafe (log
entry 96). -/
def Devices.writeTmc5 (d : Devices) (i : Ch3) (v : Byte) : Res Devices :=
  let r := tm5Control i
  let wasOn := d.tm5On i
  let clock := d.fieldOf (tm5Select i) 0 3
  let noClock := (clock = 2 && d.slowSupply) || (clock < 2 && (ti5Pin d.series i).isNone)
  refuseIf ((v &&& tmc5Zero d.series i) != 0 || field v 2 2 = 3 || (!wasOn && v.getLsbD 7 && noClock)) r <|
    let e := d.wildIf (wasOn && v.getLsbD 7 && differs 0x4F v (d.rd r)) (tm5Block i)
    let e := e.wr r (v &&& tmc5Mask d.series i)
    let e := if field v 2 2 != 0 && !e.tm5Pwm i then e.putTm5 i { e.tm5 i with out := v.getLsbD 3 } else e
    let e := if e.tm5Pwm i && !wasOn then e.putTm5 i { e.tm5 i with out := v.getLsbD 1 } else e
    .next (if wasOn = v.getLsbD 7 then e else e.tm5Start i (v.getLsbD 7))

/-! ### Timers H0, H1, H2 -/

/-- Timer Hn counts: TMHEn (R582). -/
def Devices.tmhOn (d : Devices) (i : Ch3) : Bool := d.bit (tmhControl i) 7

/-- The operation mode of timer Hn: 0 interval, 1 carrier generator, 2 PWM (R582 to R584). -/
def Devices.tmhMode (d : Devices) (i : Ch3) : Nat := d.fieldOf (tmhControl i) 2 2

/-- The counter matched CMP1n: a value written at least three count clocks ago is transferred to it (R581). A match on the
third count clock itself, which "at least three" allows and "within three" excludes, transfers: DESIGN CHOICE, unsafe (log
entry 76). -/
def Devices.tmhTransfer (d : Devices) (i : Ch3) : Devices :=
  let t := d.tmh i
  match t.cmp1Age with
  | some k => if 3 ≤ k then (d.putTmh i { t with cmp1Age := none }).wr (tmhCompare1 i) t.cmp1Next else d
  | none => d

/-- A count clock in interval mode: clear, INTTMHn and inversion at CMP0n (R586). -/
def Devices.tmhInterval (d : Devices) (i : Ch3) : Devices :=
  let t := d.tmh i
  if t.count == d.rd (tmhCompare0 i) then (d.putTmh i { t with count := 0, out := !t.out }).raise (tmhSource i)
  else d.putTmh i { t with count := t.count + 1 }

/-- A count clock in PWM mode: the targets CMP0n (clear, INTTMHn, output active) and CMP1n (output inactive) alternate
(R587). The first clock after the start is masked. With CMP1n not below CMP0n, which the rule excludes, the counter counts on past
CMP0n, and wraps, until it matches CMP1n: DESIGN CHOICE, unsafe (log entry 109). -/
def Devices.tmhPwm (d : Devices) (i : Ch3) : Devices :=
  let t := d.tmh i
  let idle := d.bit (tmhControl i) 1
  if t.masked then d.putTmh i { t with masked := false }
  else if !t.second && t.count == d.rd (tmhCompare0 i) then
    (d.putTmh i { t with count := 0, out := !idle, second := true }).raise (tmhSource i)
  else if t.second && t.count == d.rd (tmhCompare1 i) then
    (d.putTmh i { t with count := t.count + 1, out := idle, second := false }).tmhTransfer i
  else d.putTmh i { t with count := t.count + 1 }

/-- TOH1 in carrier generator mode after a carrier edge or a change of NRZ1 (R585, R588): with RMC1 = 1 the carrier from
one of its rising edges while NRZ1 = 1, a high period once begun being completed; with RMC1 = 0 the level of NRZ1. -/
def Devices.toh1Carrier (d : Devices) (edge : Bool) : Devices :=
  let t := d.tmh1
  let out :=
    if d.bit .TMCYC1 2 then
      if t.carrier then if edge then d.bit .TMCYC1 0 else t.out else false
    else d.bit .TMCYC1 0
  { d with tmh1 := { t with out := out } }

/-- A count clock of H1 in carrier generator mode: at the target, CMP01 and CMP11 in turn, INTTMH1, clear and inversion of
the carrier clock (R588). With CMP01 or CMP11 at 00H, outside the range of the rule, that level lasts one count clock: DESIGN
CHOICE, unsafe (log entry 110). -/
def Devices.tmhCarrier (d : Devices) : Devices :=
  let t := d.tmh1
  let target := if t.second then d.rd .CMP11 else d.rd .CMP01
  if t.count == target then
    let e := { d with tmh1 := { t with count := 0, carrier := !t.carrier, second := !t.second } }
    let e := if t.second then e.tmhTransfer .n1 else e
    (e.raise .tmh1).toh1Carrier true
  else { d with tmh1 := { t with count := t.count + 1 } }

/-- The transfer of NRZB1 to NRZ1 (R585): INTTM51 comes at the next TMH1 count clock as INTTM5H1, the transfer at the
second count clock after it, or the first when timer 51 counts the output of H1 (R588). That the synchronisation takes until the next
count clock is a DESIGN CHOICE, unsafe (R585; log entry 165). -/
def Devices.nrzClock (d : Devices) : Devices :=
  match d.tmh1.nrzWait with
  | some 3 =>
    let later := if d.fieldOf .TCL51 0 3 = 7 then 1 else 2
    { d with tmh1 := { d.tmh1 with nrzWait := some later } }.raise .tm51
  | some 2 => { d with tmh1 := { d.tmh1 with nrzWait := some 1 } }
  | some _ =>
    let e := { d with tmh1 := { d.tmh1 with nrzWait := none } }
    (e.putBit .TMCYC1 0 (e.bit .TMCYC1 1)).toh1Carrier false
  | none => d

/-- The count clocks since CMP1n was written (R581). -/
def TmH.age (t : TmH) : TmH :=
  match t.cmp1Age with
  | some k => { t with cmp1Age := some (k + 1) }
  | none => t

/-- One count clock of timer Hn. In carrier generator mode the transfer of NRZB1 comes before the carrier, so a rising edge of the
carrier at the same clock already starts the output: DESIGN CHOICE, unsafe (R585, R588; log entry 119). A timer with free behaviour
does not follow its clock (U11). -/
def Devices.tmhClock (d : Devices) (i : Ch3) : Devices :=
  if d.tmhOn i && !d.isWild (tmhBlock i) then
    let e := d.putTmh i (d.tmh i).age
    match e.tmhMode i with
    | 1 => e.nrzClock.tmhCarrier
    | 2 => e.tmhPwm i
    | _ => e.tmhInterval i
  else d

/-- Which power of two divides fPRS for timer Hn, where it does (R582 to R584). -/
def tmhTap (i : Ch3) (sel : Nat) : Option Nat :=
  match i with
  | .n0 => match sel with
    | 0 => some 0 | 1 => some 1 | 2 => some 2 | 3 => some 6 | 4 => some 10 | _ => none
  | .n1 => match sel with
    | 0 => some 0 | 1 => some 2 | 2 => some 4 | 3 => some 6 | 4 => some 12 | _ => none
  | .n2 => match sel with
    | 0 => some 0 | 1 => some 1 | 2 => some 2 | 3 => some 4 | 4 => some 6 | 5 => some 10 | 6 => some 12
    | _ => none

/-- A value of TMHMDn that its rule prohibits (R582 to R584). -/
def tmhProhibited (i : Ch3) (v : Byte) : Bool :=
  match i with
  | .n0 => 6 ≤ field v 4 3 || v.getLsbD 2
  | .n1 => field v 2 2 = 3
  | .n2 => field v 4 3 = 7 || v.getLsbD 2

/-- The output of timer Hn when it starts: its default level; in carrier generator mode low until a rising edge of the
carrier, or with RMC1 = 0 the level of NRZ1 (R587, R588). -/
def Devices.tmhFirst (d : Devices) (i : Ch3) : Bool :=
  if d.tmhMode i = 1 then !d.bit .TMCYC1 2 && d.bit .TMCYC1 0 else d.bit (tmhControl i) 1

/-- Start of timer Hn (R582, R586, R587). In PWM and carrier generator mode CMP1n must have been written since the last stop
(R581). The carrier clock begins at the default level TOLEV1, so with TOLEV1 = 1 CMP01 gives its high width, although R588 calls it the
low-level width: DESIGN CHOICE, unsafe (log entry 131). -/
def Devices.tmhStart (d : Devices) (i : Ch3) : Devices :=
  let t := d.tmh i
  let mode := d.tmhMode i
  let e := d.putTmh i { t with
    count := 0, out := d.tmhFirst i, second := false, masked := mode == 2, carrier := d.bit (tmhControl i) 1,
    cmp1Age := none, nrzWait := none }
  e.wildIf (mode != 0 && !t.cmp1Set) (tmhBlock i)

/-- Timer Hn is stopped, or stays so (R582, R587): the output is at its default level. A stop drops a value that waits for
its transfer, and CMP1n must be written anew (R581). A match of timer 51 that waits for timer H1 then gives no INTTM51: DESIGN
CHOICE, unsafe (R401, R585; log entry 120). -/
def Devices.tmhStop (d : Devices) (i : Ch3) (wasOn : Bool) : Devices :=
  let t := d.tmh i
  (d.putTmh i { t with
    count := 0, out := d.bit (tmhControl i) 1, second := false, cmp1Age := none, cmp1Set := t.cmp1Set && !wasOn,
    nrzWait := none }).tame (tmhBlock i)

/-- Write TMHMDn (R582 to R584): while counting, only TMHEn may change. Timer H0 does not count the undivided fPRS on a slow
supply. Bits changed by the write that starts or stops the timer take effect as written: DESIGN CHOICE, unsafe (log entry 168). -/
def Devices.writeTmhmd (d : Devices) (i : Ch3) (v : Byte) : Res Devices :=
  let r := tmhControl i
  let slow := i = .n0 && v.getLsbD 7 && field v 4 3 = 0 && d.slowSupply
  refuseIf (tmhProhibited i v || slow) r <|
    let wasOn := d.tmhOn i
    let e := d.wildIf (wasOn && v.getLsbD 7 && differs 0x7F v (d.rd r)) (tmhBlock i)
    let e := e.wr r v
    .next (if v.getLsbD 7 then if wasOn then e else e.tmhStart i else e.tmhStop i wasOn)

/-- Write CMP0n: only the same value while counting (R581). -/
def Devices.writeCmp0 (d : Devices) (i : Ch3) (v : Byte) : Res Devices :=
  let r := tmhCompare0 i
  .next ((d.wildIf (d.tmhOn i && v != d.rd r) (tmhBlock i)).wr r v)

/-- Write CMP1n: while counting the value waits for the match with the old one, and CMP1n keeps that until then (R581);
in interval mode, which does not compare CMP1n (R586), it waits until the stop drops it: DESIGN CHOICE, unsafe (log entry 76). -/
def Devices.writeCmp1 (d : Devices) (i : Ch3) (v : Byte) : Res Devices :=
  let t := d.tmh i
  if d.tmhOn i then .next (d.putTmh i { t with cmp1Next := v, cmp1Age := some 0 })
  else .next ((d.putTmh i { t with cmp1Set := true }).wr (tmhCompare1 i) v)

/-- Write TMCYC1: NRZ1 is read only, RMC1 may not change while H1 counts (R585). NRZB1 rewritten again within two clocks, which
the rule forbids, holds its last value, and NRZ1 keeps its value when H1 stops: DESIGN CHOICE, unsafe (log entry 77). -/
def Devices.writeTmcyc1 (d : Devices) (v : Byte) : Res Devices :=
  let e := d.wildIf (d.tmhOn .n1 && differs 0x04 v (d.rd .TMCYC1)) .tmh1
  .next (e.wr .TMCYC1 (merge 0x06 (d.rd .TMCYC1 &&& 0x01) (v &&& 0x06)))

end Sys2Proof.Machine
end

