-- ==== Sys2Proof/Machine/Watchdog.lean ====
section
/-! DEFINITION. The watchdog timer (R620 to R628): its counter of fRL clocks, the window, and writes of WDTE. -/

namespace Sys2Proof.Machine

/-- The overflow time in fRL clocks (R623), also for the combination WDCS2 to WDCS0 = 000 with WINDOW1, WINDOW0 = 00 that the rule
prohibits: DESIGN CHOICE, unsafe (log entry 133). -/
def Devices.wdtOverflow (d : Devices) : Nat := 2 ^ (10 + field d.chip.option80 1 3)

/-- The fRL clocks of the window-close period (R625): 75, 50, 25 or 0 percent of the overflow time. The prohibited option byte
WDCS2 to WDCS0 = 000 with WINDOW1, WINDOW0 = 00 gives 768 of 1024 clocks by the same formulas (R623; log entry 133), and WINDOW1,
WINDOW0 = 00, which R625 prohibits at 1.8 V ≤ VDD < 2.6 V, is applied whatever VDD is (log entry 134): DESIGN CHOICE, unsafe. -/
def Devices.wdtClosed (d : Devices) : Nat := d.wdtOverflow * (3 - field d.chip.option80 5 2) / 4

/-- The internal low-speed oscillator runs: LSRSTOP stops it only where the option byte allows that (R494). -/
def Devices.rlRuns (d : Devices) : Bool := d.lsrosc || !d.bit .RCM 1

/-- The watchdog timer gets its clock: not in HALT and STOP where the option byte makes the oscillator stoppable (R627), nor in the
stabilisation wait after a STOP on X1, in which R850 keeps the HALT state: DESIGN CHOICE, unsafe (log entry 153). -/
def Devices.wdtClocked (d : Devices) : Bool := d.wdton && (d.lsrosc || d.mode = .run)

/-- The counter has come to `n`: the overflow, or not yet. After a clear it may differ from the set time by up to two fRL
clocks, earlier or later, each clock of which is a free choice (R623; log entry 86). -/
def Devices.wdtOverflows (d : Devices) (n : Nat) : Bool × Devices :=
  if !d.wdt.written then (decide (d.wdtOverflow ≤ n), d)
  else if d.wdtOverflow + 2 ≤ n then (true, d)
  else if d.wdtOverflow ≤ n + 2 then d.drawBit
  else (false, d)

/-- One fRL clock: a reset that waited for the clock, or the count and its overflow (R623, R624). -/
def Devices.wdtClock (d : Devices) : Devices :=
  if !d.wdtClocked then d
  else if d.wdt.waiting then d.requestReset .watchdog
  else
    let n := d.wdt.count + 1
    let (due, e) := { d with wdt := { d.wdt with count := n } }.wdtOverflows n
    if due then e.requestReset .watchdog else e

/-- An abnormal write of WDTE: a reset, at once or when the stopped clock runs again (R624). -/
def Devices.wdtViolation (d : Devices) : Devices :=
  if !d.wdton then d
  else if d.rlRuns then d.requestReset .watchdog
  else { d with wdt := { d.wdt with waiting := true } }

/-- An 8-bit write of WDTE (R622, R624, R625): ACH clears the counter, except in the window-close period from the second
write on; anything else is abnormal. With WDTON = 0 it has no effect (R964). -/
def Devices.writeWdte (d : Devices) (v : Byte) : Devices :=
  if !d.wdton then d
  else if v != 0xAC then d.wdtViolation
  else if d.wdt.written && d.wdt.count < d.wdtClosed then d.wdtViolation
  else { d with wdt := { d.wdt with count := 0, written := true } }

/-- What WDTE reads as (R622). -/
def Devices.readWdte (d : Devices) : Byte := if d.wdton then 0x9A else 0x1A

end Sys2Proof.Machine
end

