-- ==== Sys2Proof/Machine/Clocks.lean ====
section
/-! DEFINITION. The clock generator (R490 to R508), the standby modes' effect on clocks (R840 to R852), the clock and buzzer
output register (R640), and the power-on-clear and low-voltage comparators (R855 to R866). -/

namespace Sys2Proof.Machine

/-! ### Which clocks run -/

/-- The whole main system is not stopped by STOP mode or a reset signal (R840, R930). -/
def Devices.mainAwake (d : Devices) : Bool :=
  match d.mode with
  | .stop | .held => false
  | _ => true

/-- The internal high-speed oscillator runs (R494, R847). -/
def Devices.rhRuns (d : Devices) : Bool := d.mainAwake && !d.bit .RCM 0

/-- The X1 oscillator is selected and runs (R491, R495, R847). -/
def Devices.x1Runs (d : Devices) : Bool := d.mainAwake && d.fieldOf .OSCCTL 6 2 = 1 && !d.bit .MOC 7

/-- The high-speed system clock runs: X1 oscillation or external clock input (R490, R495). -/
def Devices.xhRuns (d : Devices) : Bool := d.mainAwake && d.bit .OSCCTL 6 && !d.bit .MOC 7

/-- The subsystem clock runs; STOP does not stop it (R490, R491). -/
def Devices.subRuns (d : Devices) : Bool := d.mode != .held && d.bit .OSCCTL 4

/-- The peripheral hardware clock runs: the internal high-speed clock, or with XSEL = 1 the high-speed system clock
(R496). It follows XSEL in the write itself, also onto an X1 clock that is not yet stable: DESIGN CHOICE, unsafe (log entry 199). -/
def Devices.prsRuns (d : Devices) : Bool := if d.bit .MCM 2 then d.xhRuns else d.rhRuns

/-- The clock the CPU is on runs: the subsystem clock with CLS = 1, else the main system clock that MCS names (R492,
R496). -/
def Devices.cpuClockRuns (d : Devices) : Bool :=
  if d.clock.cls then d.subRuns else if d.clock.mcs then d.xhRuns else d.rhRuns

/-- The CPU is on the X1 clock (R850). -/
def Devices.cpuOnX1 (d : Devices) : Bool := !d.clock.cls && d.clock.mcs && !d.bit .OSCCTL 7

/-! ### The UARTs' clocks (R697) -/

/-- Timer 50 operates: it counts, on its pin or on a running fPRS (R848). -/
def Devices.tm50Operates (d : Devices) : Bool := d.tm5On .n0 && (d.prsRuns || d.fieldOf .TCL50 0 3 < 2)

/-- UART0 has its clock: fPRS, or the output of an operating timer 50 (R695, R848). -/
def Devices.uart0Clocked (d : Devices) : Bool := if d.fieldOf .BRGC0 6 2 = 0 then d.tm50Operates else d.prsRuns

/-- UART6 has its clock (R717, R848). -/
def Devices.uart6Clocked (d : Devices) : Bool := if d.fieldOf .CKSR6 0 4 = 11 then d.tm50Operates else d.prsRuns

/-- A UART that is enabled and loses its clock keeps its state and the level of its output, and is not guaranteed to operate when
the clock resumes, until it is reset (R697). One with POWER = 1 and TXE = RXE = 0 has no operation to lose and works normally
afterwards: DESIGN CHOICE, unsafe (R697; log entry 185). -/
def Devices.uartsStopped (d before : Devices) : Devices :=
  let e := d.stallIf (d.bit .ASIM0 7 && d.fieldOf .ASIM0 5 2 != 0 && before.uart0Clocked && !d.uart0Clocked) .uart0
  e.stallIf (d.bit .ASIM6 7 && d.fieldOf .ASIM6 5 2 != 0 && before.uart6Clocked && !d.uart6Clocked) .uart6

/-! ### Oscillation stabilisation (R497, R498) -/

/-- The X1 clocks that a value of OSTS selects. -/
def ostsLimit (v : Byte) : Nat :=
  match field v 0 3 with
  | 1 => 2 ^ 11 | 2 => 2 ^ 13 | 3 => 2 ^ 14 | 4 => 2 ^ 15 | _ => 2 ^ 16

/-- What OSTC reads as: MOST11, 13, 14, 15 and 16 in bits 4 to 0 (R497). -/
def Devices.ostc (d : Devices) : Byte :=
  ofBits [2 ^ 16 ≤ d.clock.x1Count, 2 ^ 15 ≤ d.clock.x1Count, 2 ^ 14 ≤ d.clock.x1Count, 2 ^ 13 ≤ d.clock.x1Count,
    2 ^ 11 ≤ d.clock.x1Count]

/-- Stop and clear the oscillation stabilisation counter (R497). -/
def Devices.clearOstc (d : Devices) : Devices := { d with clock := { d.clock with x1Count := 0 } }

/-- One X1 clock: the counter counts up to the OSTS setting; a CPU that waits for it after STOP then resumes (R497, R850).
OSTS changed during the stabilisation time, which R498 forbids, counts from the next clock on: DESIGN CHOICE, unsafe (log
entry 82). OSTS raised after the counter has stopped lets it count on from there: DESIGN CHOICE, unsafe (R497; log entry 182). -/
def Devices.x1Clock (d : Devices) : Devices :=
  if d.x1Runs then
    let limit := ostsLimit (d.rd .OSTS)
    let n := if d.clock.x1Count < limit then d.clock.x1Count + 1 else d.clock.x1Count
    let e := { d with clock := { d.clock with x1Count := n } }
    if e.mode = .stabilise && limit ≤ n then { e with mode := .run } else e
  else d

/-! ### Switching the CPU clock (R505, R506) -/

/-- A write that a clock rule forbids (U8). -/
def clockRuleIf (c : Bool) (r : Sfr) (x : Res Devices) : Res Devices :=
  if c then .refused (.clockRule r) else x

/-- The most CPU clocks a switch of CSS takes (R505), at fXP = 10 MHz and fSUB = 32.768 kHz. -/
def cssWait (toSub : Bool) (pcc : Nat) : Nat := if toSub then (611 + 2 ^ pcc - 1) / 2 ^ pcc else 2

/-- The most CPU clocks a switch of MCM0 takes (R506): 9 clocks of the main system clock to the high-speed system clock at
fXH = 2 MHz, 3 to the internal high-speed clock at fXH = 10 MHz, divided by the CPU clock's ratio. -/
def mcmWait (toHigh : Bool) (pcc : Nat) : Nat := ((if toHigh then 9 else 3) + 2 ^ pcc - 1) / 2 ^ pcc

/-- The switch that CSS asks for is complete: CLS follows (R505). -/
def Devices.finishCss (d : Devices) : Devices :=
  match d.clock.clsWait with
  | some _ => { d with clock := { d.clock with cls := d.bit .PCC 4, clsWait := none } }
  | none => d

/-- The main system clock that XSEL and MCM0 ask for is the high-speed system clock (R496). -/
def Devices.mcsTarget (d : Devices) : Bool := d.bit .MCM 2 && d.bit .MCM 0

/-- The switch that MCM0 asks for is complete: MCS follows (R506). -/
def Devices.finishMcs (d : Devices) : Devices :=
  match d.clock.mcsWait with
  | some _ => { d with clock := { d.clock with mcs := d.mcsTarget, mcsWait := none } }
  | none => d

/-- What is left of a wait after an instruction of `n` CPU clocks; `none` when nothing is left of it. The instruction that asked
for the switch takes nothing off (log entry 54). -/
def waitLeft (w : Option ClockWait) (n : Nat) : Option ClockWait :=
  match w with
  | some k => if k.asked then some ⟨k.left, false⟩ else if k.left ≤ n then none else some ⟨k.left - n, false⟩
  | none => none

/-- The pending switches after an instruction of `n` CPU clocks (R505, R506). A switch by MCM0 still pending when CLS changes goes on
with the clocks it had left, counted in the new CPU clock: DESIGN CHOICE, unsafe (log entry 162). -/
def Devices.clockSwitches (d : Devices) (n : Nat) : Devices :=
  let e := if waitLeft d.clock.clsWait n = none then d.finishCss
    else { d with clock := { d.clock with clsWait := waitLeft d.clock.clsWait n } }
  if waitLeft e.clock.mcsWait n = none then e.finishMcs
  else { e with clock := { e.clock with mcsWait := waitLeft e.clock.mcsWait n } }

/-! ### Writes -/

/-- Write OSCCTL (R491): EXCLK and OSCSEL change only while MSTOP = 1. A change of OSCSELS starts or stops the XT1
oscillation; it is not started while CSS = 1 has selected it (R502, U8). One made while peripherals still run on the subsystem clock, which the caution forbids, is carried out, and they
get no clock: DESIGN CHOICE, unsafe (log entry 78). -/
def Devices.writeOscctl (d : Devices) (v : Byte) : Res Devices :=
  refuseIf (outside 0xD0 v) .OSCCTL <|
    clockRuleIf (differs 0xC0 v (d.rd .OSCCTL) && !d.bit .MOC 7) .OSCCTL <|
      clockRuleIf (d.bit .PCC 4 && !d.bit .OSCCTL 4 && v.getLsbD 4) .OSCCTL <|
        let stable := d.clock.xtStable && d.bit .OSCCTL 4 && v.getLsbD 4
        .next { d.wr .OSCCTL v with clock := { d.clock with xtStable := stable } }

/-- The X1 oscillator runs but its shortest stabilisation time is not over (R497). -/
def Devices.x1Unstable (d : Devices) : Bool := d.x1Runs && decide (d.clock.x1Count < 2 ^ 11)

/-- CSS asks for a clock that oscillates but is not yet stable: XT1 after its start, or, where the main system clock is the
high-speed system clock, X1 (R502, U8). -/
def Devices.cssUnstable (d : Devices) (toSub : Bool) : Bool :=
  if toSub then d.bit .OSCCTL 4 && !d.clock.xtStable else d.clock.mcs && d.x1Unstable

/-- Write PCC (R492, R505): the division ratio does not change together with CSS 0 to 1, and the clock that CSS asks for is
stable (R502); CLS follows CSS later. CSS rewritten back before CLS has followed starts the wait of the new switch: DESIGN CHOICE,
unsafe (R505; log entry 122). PCC2 to PCC0 rewritten with CSS unchanged while a switch by CSS or MCM0 is pending leave the clocks that the
switch still waits for as they are: DESIGN CHOICE, unsafe (R505, R506; log entry 144). -/
def Devices.writePcc (d : Devices) (v : Byte) : Res Devices :=
  let old := d.rd .PCC
  refuseIf (outside 0x37 v || 4 < field v 0 3) .PCC <|
    clockRuleIf (!old.getLsbD 4 && v.getLsbD 4 && differs 0x07 v old) .PCC <|
      let e := d.wr .PCC (v &&& 0x17)
      if old.getLsbD 4 = v.getLsbD 4 then .next e
      else
        clockRuleIf (d.cssUnstable (v.getLsbD 4)) .PCC <|
          .next { e with clock := { e.clock with clsWait := some ⟨cssWait (v.getLsbD 4) (field old 0 3), true⟩ } }

/-- What PCC reads as: bit 5 is CLS (R492). -/
def Devices.readPcc (d : Devices) : Byte := setBit (d.rd .PCC) 5 d.clock.cls

/-- Write RCM (R494): stopping the internal high-speed oscillator ends its stable operation. RSTOP set while peripherals still
run on it is carried out like OSCSELS (R491): DESIGN CHOICE, unsafe (log entry 78). -/
def Devices.writeRcm (d : Devices) (v : Byte) : Res Devices :=
  let e := d.wr .RCM (v &&& 0x03)
  let e := if v.getLsbD 0 then { e with clock := { e.clock with rhStable := false } } else e
  .next (e.uartsStopped d)

/-- What RCM reads as: bit 7 is RSTS (R494). -/
def Devices.readRcm (d : Devices) : Byte := setBit (d.rd .RCM &&& 0x03) 7 d.clock.rhStable

/-- Write MOC (R495): MSTOP = 0 is not written in port mode, and does not start X1 oscillation that MCM0 has selected for a CPU on
the main system clock (R502, U8); MSTOP = 1 clears OSTC (R497). MSTOP set while peripherals still
run on the clock is carried out like OSCSELS (R491): DESIGN CHOICE, unsafe (log entry 78). -/
def Devices.writeMoc (d : Devices) (v : Byte) : Res Devices :=
  let selected := d.mcsTarget && d.fieldOf .OSCCTL 6 2 = 1 && !(d.bit .PCC 4 && d.clock.cls)
  clockRuleIf (!v.getLsbD 7 && (!d.bit .OSCCTL 6 || (d.bit .MOC 7 && selected))) .MOC <|
    let e := d.wr .MOC (v &&& 0x80)
    .next ((if v.getLsbD 7 then e.clearOstc else e).uartsStopped d)

/-- The CPU clocks until MCS follows MCM0: one while the CPU runs on the subsystem clock, whose period is longer than the wait
of R506. -/
def Devices.mcsDelay (d : Devices) : Nat :=
  if d.clock.cls then 1 else mcmWait d.mcsTarget (d.fieldOf .PCC 0 3)

/-- Write MCM (R496): XSEL is set once, an X1 clock that is not yet stable is not selected; MCS follows MCM0 later. MCM0
rewritten on the subsystem clock, which the caution of R496 forbids and the sequences (D) to (B) and (D) to (C) of R501 ask
for, is carried out as R501 has it: DESIGN CHOICE, unsafe (log entry 80). XSEL and MCM0 set by one write, although XSEL is to
be set beforehand, switch the clock: DESIGN CHOICE, unsafe (log entry 81). MCM0 rewritten back before MCS has followed starts the
wait of the new switch: DESIGN CHOICE, unsafe (R506; log entry 122). -/
def Devices.writeMcm (d : Devices) (v : Byte) : Res Devices :=
  let old := d.rd .MCM
  clockRuleIf (old.getLsbD 2 && !v.getLsbD 2) .MCM <|
    clockRuleIf (d.x1Unstable && v.getLsbD 2 && v.getLsbD 0 && differs 0x05 v old) .MCM <|
      let before := d.mcsTarget
      let e := d.wr .MCM (v &&& 0x05)
      let e := if e.mcsTarget = before then e
        else { e with clock := { e.clock with mcsWait := some ⟨e.mcsDelay, true⟩ } }
      .next (e.uartsStopped d)

/-- What MCM reads as: bit 1 is MCS (R496). -/
def Devices.readMcm (d : Devices) : Byte := setBit (d.rd .MCM) 1 d.clock.mcs

/-- Write OSTS (R498). -/
def Devices.writeOsts (d : Devices) (v : Byte) : Res Devices :=
  refuseIf (field v 0 3 = 0 || 5 < field v 0 3) .OSTS (.next (d.wr .OSTS (v &&& 0x07)))

/-- Write CKS (R640): the clock output only in LF3, with a clock of the list, not the undivided fPRS on a slow supply. A
frequency changed while its output is enabled leaves the output free until it is disabled (U11). One write that both selects the
frequency and enables the output, which the procedure of R640 keeps apart, starts the output on the new selection: DESIGN CHOICE,
unsafe (log entry 137). -/
def Devices.writeCks (d : Devices) (v : Byte) : Res Devices :=
  let v := if d.series.isLf then v else v &&& 0xE0
  let slow := v.getLsbD 4 && field v 0 4 = 0 && d.slowSupply
  refuseIf (8 < field v 0 4 || slow) .CKS <|
    let old := d.rd .CKS
    let e := d.wildIf (old.getLsbD 7 && v.getLsbD 7 && differs 0x60 v old) .buz
    let e := e.wildIf (old.getLsbD 4 && v.getLsbD 4 && differs 0x0F v old) .pcl
    let e := if v.getLsbD 7 then e else e.tame .buz
    let e := if v.getLsbD 4 then e else e.tame .pcl
    .next { e.wr .CKS v with
      buz := d.buz.switch (v.getLsbD 7) (e.wr .CKS v).buzDivider false
      pcl := d.pcl.switch (v.getLsbD 4) (e.wr .CKS v).pclDivider (e.wr .CKS v).pclOnSub }

/-- One clock of the source of the clock output (R640). -/
def Devices.pclClock (d : Devices) : Devices :=
  { d with pcl := d.pcl.clock (d.bit .CKS 4) d.pclDivider d.pclOnSub }

/-- One clock of fPRS for the buzzer output, and for the clock output on fPRS (R640). -/
def Devices.prsOutputs (d : Devices) : Devices :=
  let e := { d with buz := d.buz.clock (d.bit .CKS 7) d.buzDivider false }
  if e.pcl.sub then e else e.pclClock

/-- One clock of fSUB for the clock output on fSUB (R640). -/
def Devices.subOutputs (d : Devices) : Devices := if d.pcl.sub then d.pclClock else d

/-! ### Standby -/

/-- A source requests with its flag set and its mask flag clear (R402). -/
def Devices.unmasked (d : Devices) (k : Nat) : Byte := d.rd (flagReg k) &&& ~~~(d.rd (maskReg k))

/-- Some unmasked interrupt request is pending: it releases standby (R841, R844). -/
def Devices.wakes (d : Devices) : Bool :=
  d.unmasked 0 != 0 || d.unmasked 1 != 0 || d.unmasked 2 != 0 || d.unmasked 3 != 0

/-- Enter HALT mode (R396, R842). A switch by CSS or MCM0 that is pending stays so, because no CPU clock counts in HALT mode, until the
environment completes it or the CPU runs on: DESIGN CHOICE, unsafe (R505, R506; log entry 123). -/
def Devices.enterHalt (d : Devices) : Devices := { d with mode := .halt }

/-- Enter STOP mode: both main oscillators stop, OSTC clears (R397, R847, R852), and the UARTs on fPRS lose their clock. A switch of
the CPU clock by CSS or of the main system clock by MCM0 that is still pending is complete then, so that the CPU resumes on the new
clock, with the wait of OSTS where that is the X1 clock: DESIGN CHOICE, unsafe (R397, R506; log entry 95). With ADDPON or ADDCE = 1
and a sampling clock divided from fPRS, which R671 and R848 rule out, STOP mode is entered all the same, and the conversion pauses and
goes on after the release: DESIGN CHOICE, unsafe (log entry 138). Right after RTCE = 1 without the two fRTC clocks or the RWAIT sequence
of R611, and with RWST = 1, before R612 allows it, STOP mode is entered too; on fSUB the real-time counter and its wait
state go on undisturbed: DESIGN CHOICE, unsafe (log entries 150 and 151). -/
def Devices.enterStop (d : Devices) : Devices :=
  let e := d.finishCss.finishMcs
  Devices.uartsStopped { e with mode := .stop, clock := { e.clock with rhStable := false, x1Count := 0 } } d

/-- Standby is released by an unmasked request: from HALT and from STOP to operation, on the X1 clock after the wait of
OSTS (R844, R850). -/
def Devices.wake (d : Devices) : Devices :=
  if d.wakes then
    match d.mode with
    | .halt => { d with mode := .run }
    | .stop => { d with mode := if d.cpuOnX1 then .stabilise else .run }
    | _ => d
  else d

/-! ### Supply voltage (R855, R860 to R866) -/

/-- The detection voltage in millivolts that LVIS selects (R862). -/
def lviLevel (n : Nat) : Nat :=
  match n with
  | 0 => 4240 | 1 => 4090 | 2 => 3930 | 3 => 3780 | 4 => 3620 | 5 => 3470 | 6 => 3320 | 7 => 3160
  | 8 => 3010 | 9 => 2850 | 10 => 2700 | 11 => 2550 | 12 => 2390 | 13 => 2240 | 14 => 2080 | _ => 1930

/-- The voltage the detector looks at is below its detection voltage (R860, R861). EXLVI is compared also with PM120 = 0, for which
the rules, which require PM120 = 1, state nothing: DESIGN CHOICE, unsafe (R462, R860; log entry 105). -/
def Devices.lviBelow (d : Devices) : Bool :=
  if d.bit .LVIM 2 then d.env.exlvi < 1210 else d.env.vdd < lviLevel (d.fieldOf .LVIS 0 4)

/-- The comparator's output, and INTLVI or the reset that it gives (R861, R863, R864). A detector whose level was changed
while it operates gives free outputs (U11). -/
def Devices.lviCompare (d : Devices) : Devices :=
  if d.bit .LVIM 7 then
    let (low, d') := if d.isWild .lvi then d.drawBit else (d.lviBelow, d)
    let e := { d' with lviLow := low }
    if e.bit .LVIM 1 then if low then e.requestReset .lvi else e
    else e.raiseIf (low != d.lviLow) .lvi
  else { d with lviLow := false }

/-- Write LVIM (R861, R863): starting the detector may raise INTLVI; stopping it in interrupt mode below the detection
voltage raises it. LVISEL and LVIMD set by the write that sets LVION, or after it, against the order of R863 and R864, take effect as
written: DESIGN CHOICE, unsafe (log entry 143). LVISEL rewritten in operation compares the other voltage at once: DESIGN CHOICE, unsafe
(R861; log entry 200). -/
def Devices.writeLvim (d : Devices) (v : Byte) : Res Devices :=
  let wasOn := d.bit .LVIM 7
  let stopped := wasOn && !v.getLsbD 7
  let e := (d.raiseIf (stopped && d.lviLow && !d.bit .LVIM 1) .lvi).wr .LVIM (v &&& 0x86)
  if wasOn || !v.getLsbD 7 then .next ((if stopped then e.tame .lvi else e).lviCompare)
  else
    let (b, e) := { e with lviLow := e.lviBelow }.drawBit
    .next ((e.raiseIf b .lvi).lviCompare)

/-- What LVIM reads as: bit 0 is LVIF (R861). -/
def Devices.readLvim (d : Devices) : Byte := setBit (d.rd .LVIM) 0 d.lviLow

/-- Write LVIS (R862). -/
def Devices.writeLvis (d : Devices) (v : Byte) : Res Devices :=
  refuseIf (outside 0x0F v) .LVIS <|
    .next (((d.wildIf (d.bit .LVIM 7 && v != d.rd .LVIS) .lvi).wr .LVIS v).lviCompare)

/-- The voltage at which the power-on-clear circuit releases its reset: 2.7 V with POCMODE = 1, else 1.59 V (R855,
R893). -/
def Devices.pocRelease (d : Devices) : Nat := if d.chip.option81.getLsbD 0 then 2700 else 1590

/-- The power-on-clear comparator (R855). -/
def Devices.pocCompare (d : Devices) : Devices :=
  if d.env.vdd < 1590 then { d with pocLow := true }.requestReset .poc
  else if d.pocRelease ≤ d.env.vdd then { d with pocLow := false } else d

/-- A reset signal is active (R872). -/
def Devices.resetHeld (d : Devices) : Bool :=
  d.env.resetLow || d.pocLow || (d.bit .LVIM 7 && d.bit .LVIM 1 && d.lviBelow)

end Sys2Proof.Machine
end

