-- ==== Sys2Proof/Machine/Adc.lean ====
section
/-! DEFINITION. The 10-bit successive-approximation A/D converter (R650 to R659) and the 16-bit delta-sigma A/D converter
(R670 to R676): one clock of each, and the accesses to their registers. -/

namespace Sys2Proof.Machine

/-- An access that waits for fPRS; with fPRS stopped the wait never ends (R951, R952, U10). -/
def Devices.waitPrs {α : Type} (d : Devices) (x : Res α) : Res α := if d.prsRuns then x else .fault .endlessWait

/-- The voltage in millivolts on port 2 pin `n`; a pin without a voltage is at AVSS. -/
def Env.voltage (env : Env) (n : Nat) : Nat :=
  match env.analog.find? (fun p => p.1 == n) with
  | some p => p.2
  | none => 0

/-- The number of analog input channels (R7, R653). -/
def Devices.adcChannels (d : Devices) : Nat := if d.series.isLeLf then 8 else 6

/-! ### Prohibited settings of port 2 (R460) -/

/-- A pin that ADPC0 makes analog is in output mode (R460). -/
def Devices.analogOutput (d : Devices) : Bool :=
  (List.range 8).any fun n => d.outputMode (2, n) && d.fieldOf .ADPC0 0 4 ≤ n && !d.bit .PF2 n

/-- An analog pin is the target of both converters: selected by ADS while the 10-bit converter or its comparator operates,
and by ADDCTL0 while the delta-sigma converter has power (R460, R653; log entry 88). -/
def Devices.bothSelected (d : Devices) : Bool :=
  let ch := d.fieldOf .ADS 0 3
  (d.bit .ADM 7 || d.bit .ADM 0) && d.bit .ADDCTL0 7 && ch / 2 == d.fieldOf .ADDCTL0 0 2 && d.analogPin ch

/-- Refuse a write that leaves port 2 with a prohibited setting (R460, U11). -/
def Devices.checkPort2 (r : Sfr) (x : Res Devices) : Res Devices :=
  andThen x fun e => refuseIf (e.analogOutput || e.bothSelected) r (.next e)

/-! ### The 10-bit converter -/

/-- FR3 to FR0 and LV1, LV0 select a conversion time of the table (R652). -/
def admAllowed (v : Byte) : Bool := !v.getLsbD 2 && (v.getLsbD 6 || field v 3 4 ≤ 5)

/-- fPRS clocks of one conversion clock fAD (R652). -/
def adcDivider (v : Byte) : Nat :=
  match field v 3 4 with
  | 0 => 12 | 1 => 8 | 2 => 6 | 3 => 4 | 4 => 3 | 5 => 2 | _ => 16

/-- fPRS clocks of a conversion: 22 fAD clocks with LV0 = 0, 40 with LV0 = 1 (R652). -/
def adcTime (v : Byte) : Nat := (if v.getLsbD 1 then 40 else 22) * adcDivider v

/-- A voltage outside the range that has a stated result: AVREF or more, or AVSS (R658). -/
def Devices.overRange (d : Devices) (mv : Nat) : Bool := mv == 0 || d.env.avref ≤ mv

/-- An analog input, the selected one or another, is out of range, which may affect the conversion (R658). -/
def Devices.adcAffected (d : Devices) : Bool :=
  (List.range d.adcChannels).any fun n => d.analogPin n && d.overRange (d.env.voltage n)

/-- The selected channel is an analog input (R653). -/
def Devices.adcPin (d : Devices) : Bool := d.analogPin (d.fieldOf .ADS 0 3)

/-- AVREF is below the range of the conversion times that LV0 selects: 2.7 V, or 2.3 V with LV0 = 1 (R652). -/
def Devices.adcLowRef (d : Devices) : Bool := decide (d.env.avref < if d.bit .ADM 1 then 2300 else 2700)

/-- fAD is faster than AVREF allows, where fPRS is the internal high-speed clock of 8 MHz; the frequency of another clock is no part
of the model (R652; log entry 50). -/
def Devices.adcFast (d : Devices) : Bool :=
  let limit := if 4000 ≤ d.env.avref then 3600 else if 2700 ≤ d.env.avref then 1800 else 1480
  !d.bit .MCM 2 && decide (limit * adcDivider (d.rd .ADM) < 8000)

/-- The result of a conversion of the selected channel is not stated: it was disturbed or begun too early, AVREF or fAD, the held
voltage or that of an analog input is out of range, or the pin is not an analog input (R652, R653, R658, R659). -/
def Devices.adcOpen (d : Devices) : Bool :=
  d.adc.rough || d.adc.early || d.adcLowRef || d.adcFast || !d.adcPin || d.overRange d.adc.sample || d.adcAffected

/-- SAR = INT(VAIN / AVREF × 1024 + 0.5), at most 1023 (R658). -/
def sarValue (vain avref : Nat) : Nat := min 1023 ((2 * 1024 * vain + avref) / (2 * avref))

/-- ADCR with a 10-bit value in bits 15 to 6 (R655, R658). -/
def sarWord (n : Nat) : Word := BitVec.ofNat 16 (64 * n)

/-- A conversion begins: the voltage of the selected channel, which must be an analog input, is sampled and held (R653, R657; log
entry 88). -/
def Devices.adcBegin (d : Devices) : Devices :=
  { d with adc := { d.adc with
      left := adcTime (d.rd .ADM), sample := d.env.voltage (d.fieldOf .ADS 0 3), rough := !d.adcPin || d.adcAffected } }

/-- The end of a conversion: ADCR and INTAD, and the next conversion (R657). -/
def Devices.adcFinish (d : Devices) : Devices :=
  let (w, e) := if d.adcOpen then let (w, e) := d.drawWord; (w &&& 0xFFC0, e)
    else (sarWord (sarValue d.adc.sample d.env.avref), d)
  let e := e.wrWord .ADCR w
  ({ e with adc := { e.adc with early := false } }.adcBegin).raise .ad

/-- The conversion in progress is disturbed: by an access to port 2, another reference voltage, or an analog input out of range
(R658, R659). -/
def Devices.adcDisturb (d : Devices) (c : Bool) : Devices :=
  if c && d.bit .ADM 7 then { d with adc := { d.adc with rough := true } } else d

/-- After another setting of the pins the selected channel is no analog input, or one that is out of range is: either disturbs the
conversion (R653, R658). -/
def Devices.adcPinMoved (d : Devices) : Devices := d.adcDisturb (!d.adcPin || d.adcAffected)

/-- One fPRS clock of the converter: the comparator's stabilisation, then the conversion (R652, R657). While its behaviour is
free it does not finish by itself (U11). -/
def Devices.adcClock (d : Devices) : Devices :=
  let e := { d with adc := { d.adc with warmup := if d.bit .ADM 0 then min 10 (d.adc.warmup + 1) else 0 } }
  if e.bit .ADM 7 && !e.isWild .adc then
    if e.adc.left ≤ 1 then e.adcFinish else { e with adc := { e.adc with left := e.adc.left - 1 } }
  else e

/-- A write to ADM or ADPC0 when the conversion ends may conflict with the end: then the write has priority, ADCR is not
written and INTAD is not generated (R659). -/
def Devices.adcConflict (d : Devices) : Devices :=
  if d.bit .ADM 7 && d.adc.left ≤ 1 then let (b, e) := d.drawBit; if b then e.adcBegin else e else d

/-- ADCR is undefined after a write of a converter register (R655). -/
def Devices.freeAdcr (d : Devices) : Devices := let (w, e) := d.drawWord; e.wrWord .ADCR (w &&& 0xFFC0)

/-- The comparator is stable: 1 µs, at most 10 fPRS clocks, after ADCE (R652). -/
def Devices.comparatorStable (d : Devices) : Bool := d.bit .ADM 0 && d.adc.warmup == 10

/-- Write ADM (R652): starting begins a conversion, whose first result counts only after the comparator is stable; stopping
keeps the result (R657). ADCE rewritten while ADCS = 1 lets the conversion in progress go on with a valid result (R652; log entry
139), and FR3 to FR0, LV1 and LV0 set by the write that sets ADCS, against the order of R657, give the conversion the new time (log
entry 140): DESIGN CHOICE, unsafe. FR3 to FR0, LV1 and LV0 changed by the write that clears ADCS: log entry 168; ADCE cleared with or
before ADCS: log entry 143. -/
def Devices.writeAdm (d : Devices) (v : Byte) : Res Devices :=
  d.waitPrs <| refuseIf (!admAllowed v || (v.getLsbD 7 && d.bit .ADDCTL0 6)) .ADM <| Devices.checkPort2 .ADM <|
    let old := d.rd .ADM
    let stable := d.comparatorStable && v.getLsbD 0
    let e := (d.wildIf (old.getLsbD 7 && v.getLsbD 7 && differs 0x7E v old) .adc).wr .ADM v
    let e := if v.getLsbD 0 then e else { e with adc := { e.adc with warmup := 0 } }
    if old.getLsbD 7 && !v.getLsbD 7 then .next (e.tame .adc)
    else if v.getLsbD 7 && !old.getLsbD 7 then .next { e with adc := { e.adc with early := !stable } }.adcBegin.freeAdcr
    else .next e.adcConflict.freeAdcr

/-- Write ADS (R653): the conversion in progress restarts on the channel. -/
def Devices.writeAds (d : Devices) (v : Byte) : Res Devices :=
  d.waitPrs <| refuseIf (outside 0x07 v || d.adcChannels ≤ field v 0 3) .ADS <| Devices.checkPort2 .ADS <|
    .next (d.wr .ADS v).freeAdcr.adcBegin

/-! ### The delta-sigma converter -/

/-- The target's pins are analog inputs (R460, R676). -/
def Devices.dsadPins (d : Devices) : Bool :=
  d.analogPin (2 * d.fieldOf .ADDCTL0 0 2) && d.analogPin (2 * d.fieldOf .ADDCTL0 0 2 + 1)

/-- Another pin setting of the target while the delta-sigma converter converts stops its results (R676). -/
def Devices.dsadMoved (d before : Devices) : Devices :=
  if d.bit .ADDCTL0 6 && d.dsadPins != before.dsadPins then { d with dsad := { d.dsad with moved := true } } else d

/-- It converts: power on and ADDCE = 1 (R671). ADDCE = 1 without power converts nothing until ADDPON = 1: DESIGN CHOICE, unsafe (log entry
181). -/
def Devices.dsadOn (d : Devices) : Bool := d.bit .ADDCTL0 7 && d.bit .ADDCTL0 6

/-- The sampling clock is fSUB/2 (R672). -/
def Devices.dsadOnSub (d : Devices) : Bool := d.fieldOf .ADDCTL1 6 2 = 3

/-- Operating clocks of one sampling clock fVP (R672). -/
def Devices.dsadRatio (d : Devices) : Nat := if d.dsadOnSub then 2 else 2 ^ (2 + d.fieldOf .ADDCTL1 6 2)

/-- The resolution in bits (R672). -/
def Devices.dsadBits (d : Devices) : Nat :=
  if d.fieldOf .ADDCTL1 0 3 = 0 then 8 else 9 + d.fieldOf .ADDCTL1 0 3

/-- Operating clocks of the sampling time N / fVP (R672). -/
def Devices.dsadSampling (d : Devices) : Nat := 2 ^ d.dsadBits * d.dsadRatio

/-- Operating clocks of the first conversion: initialisation and sampling (R672). -/
def Devices.dsadFirst (d : Devices) : Nat := 1 + 256 * d.dsadRatio + d.dsadSampling

/-- Operating clocks of a later conversion; a quarter in parallel mode (R672). -/
def Devices.dsadLater (d : Devices) : Nat :=
  if d.bit .ADDCTL1 5 then d.dsadSampling / 4 else d.dsadSampling

/-- The pins of the selected channel or of the reference are not usable: not analog inputs, or not for this converter (R459,
R464). -/
def Devices.dsadUnusable (d : Devices) : Bool :=
  !(d.dsadPins && d.fieldOf .ADPC0 0 4 ≤ 2 * d.fieldOf .ADDCTL0 0 2 && d.analogPin 6 && d.analogPin 7)

/-- A result: the unused low bits are 0 (R673, D25). -/
def Devices.dsadResult (d : Devices) : Word × Devices :=
  let ch := d.fieldOf .ADDCTL0 0 2
  let (w, e) :=
    if d.dsad.rough || d.dsadUnusable then d.drawWord
    else (Config.dsadConvert (d.rd .ADDCTL0) (d.rd .ADDCTL1) (d.env.voltage (2 * ch + 1)) (d.env.voltage (2 * ch))
        d.env.avref d.draws, { d with draws := d.draws + 1 })
  (w &&& ~~~(BitVec.ofNat 16 (2 ^ (16 - d.dsadBits) - 1)), e)

/-- The end of a conversion: ADDCR, ADDSTR and INTDSAD; no result is stored after a change of the target's pin setting
(R673, R674, R676), and ADDSTR keeps its value then: DESIGN CHOICE, unsafe (log entry 184). -/
def Devices.dsadFinish (d : Devices) : Devices :=
  let e := { d with dsad := { d.dsad with left := d.dsadLater } }
  if e.dsad.moved then let (b, e) := e.drawBit; e.raiseIf b .dsad
  else
    let (w, e) := e.dsadResult
    ((e.wrWord .ADDCR w).wr .ADDSTR (e.rd .ADDCTL0 &&& 0x03)).raise .dsad

/-- One operating clock of a conversion. While its behaviour is free it does not finish by itself (U11). -/
def Devices.dsadStep (d : Devices) : Devices :=
  if d.dsadOn && !d.isWild .dsad then
    if d.dsad.left ≤ 1 then d.dsadFinish else { d with dsad := { d.dsad with left := d.dsad.left - 1 } }
  else d

/-- One fPRS clock (R671, R672). -/
def Devices.dsadClock (d : Devices) : Devices :=
  let e := { d with dsad := { d.dsad with warmup := if d.bit .ADDCTL0 7 then min 12 (d.dsad.warmup + 1) else 0 } }
  if e.dsadOnSub then e else e.dsadStep

/-- One fSUB clock (R672). -/
def Devices.dsadSubClock (d : Devices) : Devices := if d.dsadOnSub then d.dsadStep else d

/-- Write ADDCTL0 (R671): any write begins the conversion anew; a start, which makes ADDPON and ADDCE both 1, less than
1.2 µs after ADDPON has no guaranteed result. Other settings made in another order than that of R676 take effect as written: DESIGN CHOICE, unsafe (log entry 143). -/
def Devices.writeAddctl0 (d : Devices) (v : Byte) : Res Devices :=
  refuseIf (field v 0 2 = 3 || (v.getLsbD 6 && d.bit .ADM 7)) .ADDCTL0 <| Devices.checkPort2 .ADDCTL0 <|
    let old := d.rd .ADDCTL0
    let rough := if field old 6 2 = 3 && field v 6 2 = 3 then d.dsad.rough else !(old.getLsbD 7 && d.dsad.warmup = 12)
    let e := if v.getLsbD 6 then d else d.tame .dsad
    let e := e.wr .ADDCTL0 (v &&& 0xF3)
    let warmup := if v.getLsbD 7 then e.dsad.warmup else 0
    .next { e with dsad := { e.dsad with warmup := warmup, left := e.dsadFirst, rough := rough, moved := false } }

/-- Write ADDCTL1 (R672). The limits of the sampling clock are not looked at: DESIGN CHOICE, unsafe (log entry 171). -/
def Devices.writeAddctl1 (d : Devices) (v : Byte) : Res Devices :=
  refuseIf (v.getLsbD 5 && field v 6 2 = 3) .ADDCTL1 <|
    .next ((d.wildIf (d.bit .ADDCTL0 6) .dsad).wr .ADDCTL1 (v &&& 0xE7))

/-- Write the sampling delay enable register at FA26H (R675). -/
def Devices.writeDsten (d : Devices) (v : Byte) : Res Devices :=
  .next ((d.wildIf (d.bit .ADDCTL0 7 || d.bit .ADDCTL0 6) .dsad).wr .DSTEN (v &&& 0x80))

/-- Write the sampling delay register at FA27H (R675). -/
def Devices.writeDsdly (d : Devices) (v : Byte) : Res Devices :=
  .next ((d.wildIf (d.bit .ADDCTL0 7 || d.bit .ADDCTL0 6 || !d.bit .DSTEN 7) .dsad).wr .DSDLY (v &&& 0x70))

/-- The value a read of ADDCR or ADDCRH gives, which waits for fPRS; when a conversion is about to end it may be undefined
(R673). -/
def Devices.readAddcr {α : Type} (d : Devices) (stored : α) (free : α × Devices) : Res (α × Devices) :=
  if d.clock.cls && !d.prsRuns then .fault .endlessWait
  else .next (if d.dsadOn && d.dsad.left ≤ 1 then free else (stored, d))

/-- A write to ADPC0 when a conversion ends may conflict with the end: then the write has priority, ADDCR is not written and
INTDSAD is not generated (R659, R673). -/
def Devices.dsadConflict (d : Devices) : Devices :=
  if d.dsadOn && d.dsad.left ≤ 1 then
    let (b, e) := d.drawBit
    if b then { e with dsad := { e.dsad with left := e.dsadLater } } else e
  else d

/-! ### Writes that both converters see -/

/-- Write ADPC0 (R654, R459). 1000B on 041x and 043x, for which R459 lists 0 to 6 and R654 and the reset value have all pins
digital, is taken as all digital: DESIGN CHOICE, unsafe (log entry 102). -/
def Devices.writeAdpc0 (d : Devices) (v : Byte) : Res Devices :=
  d.waitPrs <| refuseIf (8 < field v 0 4 || (!d.series.isLeLf && field v 0 4 = 7)) .ADPC0 <| Devices.checkPort2 .ADPC0 <|
    .next (((d.adcConflict.dsadConflict.wr .ADPC0 (v &&& 0x0F)).freeAdcr.dsadMoved d).adcPinMoved)

/-- Write PF2: 1 makes a pin of port 2 a segment output (R457, R460). -/
def Devices.writePf2 (d : Devices) (v : Byte) : Res Devices :=
  Devices.checkPort2 .PF2 (.next ((d.wr .PF2 (v &&& if d.series.isLeLf then 0xFF else 0x3F)).dsadMoved d).adcPinMoved)

end Sys2Proof.Machine
end

