-- ==== Sys2Proof/Machine/Uart.lean ====
section
/-! DEFINITION. The asynchronous serial interfaces UART0 (R690 to R699) and UART6 (R710 to R729): one base clock of each,
and the accesses to their registers. A bit lasts 2k base clocks. -/

namespace Sys2Proof.Machine

/-! ### Frames -/

/-- The data bits of a frame in the order of the line: 7 or 8, from bit 0 up, or from bit 7 down (R698, R712, R723). -/
def dataBits (eight lsb : Bool) (v : Byte) : List Bool :=
  if lsb then (bitList v).take (if eight then 8 else 7) else (bitList v).reverse.take (if eight then 8 else 7)

/-- The byte of received data bits in the order of the line (R691, R712). -/
def dataByte (lsb : Bool) (bits : List Bool) : Byte :=
  if lsb then ofBits bits else reverse8 (ofBits bits)

/-- The parity bit that the two parity bits of ASIM select: none, 0, odd, even (R698). -/
def parityBits (ps : Nat) (bits : List Bool) : List Bool :=
  match ps with
  | 0 => []
  | 1 => [false]
  | 2 => [!oddOnes bits]
  | _ => [oddOnes bits]

/-- A frame: start bit, data, parity, one or two stop bits (R698). -/
def frame (ps : Nat) (two : Bool) (bits : List Bool) : List Bool :=
  [false] ++ bits ++ parityBits ps bits ++ (if two then [true, true] else [true])

/-! ### A transmitter and a receiver -/

/-- Send a bit pattern: after the bits being sent; at rest at once for the first transmission, which clears the transmit counter,
and later when the bit time that the counter is in is over, the line being high until then (R699, R729). -/
def UartTx.send (t : UartTx) (k : Nat) (bits : List Bool) : UartTx :=
  match t.bits with
  | [] =>
    if t.begun && t.left != 2 * k then { t with bits := true :: bits }
    else { t with bits := bits, left := 2 * k, begun := true }
  | _ => { t with bits := t.bits ++ bits }

/-- One base clock of a transmitter; the second part says whether a new bit began. With nothing to send the transmit counter goes
on (R699, R729). -/
def UartTx.clock (t : UartTx) (k : Nat) : UartTx × Bool :=
  let t := { t with age := min 2 (t.age + 1) }
  match t.bits with
  | [] => (if t.begun then { t with left := if t.left ≤ 1 then 2 * k else t.left - 1 } else t, false)
  | _ :: rest => if t.left ≤ 1 then ({ t with bits := rest, left := 2 * k }, true) else ({ t with left := t.left - 1 }, false)

/-- A base clock of a receiver's noise filter: the level changes when two samples agree (R699). -/
def UartRx.filter (r : UartRx) (level : Bool) : UartRx :=
  { r with sample := level, line := if level == r.sample then level else r.line, age := min 2 (r.age + 1) }

/-- The position of the line sample taken after this base clock: 0 in the middle of the start bit, then one for each bit
(R698). -/
def samplePoint (k count : Nat) : Option Nat :=
  if k ≤ count && (count - k) % (2 * k) == 0 then some ((count - k) / (2 * k)) else none

/-- Start a frame at a falling edge of the filtered line (R698). -/
def UartRx.start (r old : UartRx) : UartRx :=
  if old.line && !r.line then { r with active := true, count := 0, bits := [] } else r

/-- A receiver is reset: by RXE = 0 (R693). -/
def UartRx.stop (r : UartRx) : UartRx := { UartRx.reset with unread := r.unread, age := 0 }

/-! ### UART0 -/

/-- k of UART0 (R695). -/
def Devices.k0 (d : Devices) : Nat := d.fieldOf .BRGC0 0 5

/-- Which power of two divides fPRS to give the base clock of UART0; none for the TM50 output (R695). -/
def uart0Tap (sel : Nat) : Option Nat :=
  match sel with
  | 1 => some 1 | 2 => some 3 | 3 => some 5 | _ => none

/-- One base clock of the UART0 transmitter: INTST0 when the last stop bit begins (R698). -/
def Devices.tx0Clock (d : Devices) : Devices :=
  let (t, began) := d.tx0.clock d.k0
  { d with tx0 := t }.raiseIf (began && t.bits.length == 1) .csi10st0

/-- The number of bits after the start bit: data, parity, one stop bit (R698). -/
def frameLength (eight : Bool) (ps : Nat) : Nat := (if eight then 8 else 7) + (if ps = 0 then 0 else 1) + 1

/-- The parity of received bits (parity bit first in the list) does not match (R698). -/
def parityError (ps : Nat) (bits : List Bool) : Bool :=
  match ps with
  | 2 => !oddOnes bits
  | 3 => oddOnes bits
  | _ => false

/-- The data bits of a received frame in the order of the line: without stop bit and parity bit. -/
def receivedData (ps : Nat) (bits : List Bool) : List Bool := (bits.drop (if ps = 0 then 1 else 2)).reverse

/-- The error flags of a received frame: PE in bit 2, FE in bit 1, OVE in bit 0 (R694, R715). -/
def frameErrors (ps : Nat) (bits : List Bool) (unread : Bool) : Byte :=
  ofBits [unread, !bits.headD true, parityError ps (bits.drop 1)]

/-- The end of a UART0 reception: RXB0 unless overrun, ASIS0, INTSR0 (R691, R694, R698). -/
def Devices.rx0Finish (d : Devices) : Devices :=
  let ps := d.fieldOf .ASIM0 3 2
  let bits := d.rx0.bits
  let e := d.wr .ASIS0 (d.rd .ASIS0 ||| frameErrors ps bits d.rx0.unread)
  let e := if d.rx0.unread then e else e.wr .RXB0 (dataByte true (receivedData ps bits))
  { e with rx0 := { e.rx0 with active := false, unread := true } }.raise .sr0

/-- One base clock of the UART0 receiver (R698, R699). -/
def Devices.rx0Clock (d : Devices) : Devices :=
  let old := d.rx0
  let r := old.filter d.rxd0
  if !d.bit .ASIM0 5 then { d with rx0 := { old with age := r.age } }
  else if !r.active then { d with rx0 := r.start old }
  else
    let r := { r with count := r.count + 1 }
    match samplePoint d.k0 r.count with
    | none => { d with rx0 := r }
    | some 0 => { d with rx0 := { r with active := !r.line } }
    | some n =>
      let e := { d with rx0 := { r with bits := r.line :: r.bits } }
      if n = frameLength (d.bit .ASIM0 2) (d.fieldOf .ASIM0 3 2) then e.rx0Finish else e

/-- One base clock of UART0, which POWER0 enables (R693, R697). With free behaviour it follows none of the rules (U11). -/
def Devices.uart0Clock (d : Devices) : Devices :=
  let e := d.resume .uart0
  if !d.bit .ASIM0 7 then d else if e.isWild .uart0 then e else e.tx0Clock.rx0Clock

/-- Write ASIM0 (R693). Free behaviour ends with POWER0 = TXE0 = RXE0 = 0, the operation stop mode (R697). POWER0 set by the write
that sets TXE0 or RXE0, or after it, against the order of R693 and R697, is a normal start: DESIGN CHOICE, unsafe (log entry 141); POWER0 cleared with TXE0 and RXE0 or before
them stops at once: DESIGN CHOICE, unsafe (log entry 159). SL0, CL0, PS00 and PS01 set by the write that sets POWER0, TXE0 or RXE0, or
BRGC0 after it, take effect as written: DESIGN CHOICE, unsafe (R697; log entry 169). A byte in RXB0 that was not read stays so over
RXE0 = 0: DESIGN CHOICE, unsafe (log entry 178). POWER0 = 0 ends the wait of two base clocks before TXE0 or RXE0 is set again: DESIGN
CHOICE, unsafe (R693; log entry 186). TXE0 and RXE0, which R693 synchronises with the base clock, act in the write itself: DESIGN
CHOICE, unsafe (log entry 194). -/
def Devices.writeAsim0 (d : Devices) (v : Byte) : Res Devices :=
  refuseIf (!v.getLsbD 0) .ASIM0 <|
    let old := d.rd .ASIM0
    let busy := old.getLsbD 6 || old.getLsbD 5
    let e := d.wildIf (busy && differs 0x1C v old) .uart0
    let e := e.wildIf (old.getLsbD 6 && differs 0x02 v old) .uart0
    let e := e.wildIf (!old.getLsbD 6 && v.getLsbD 6 && e.tx0.age < 2) .uart0
    let e := e.wildIf (!old.getLsbD 5 && v.getLsbD 5 && e.rx0.age < 2) .uart0
    let e := e.wr .ASIM0 v
    let on := v.getLsbD 7
    let e := if on && v.getLsbD 6 then if old.getLsbD 6 then e else { e with tx0 := { e.tx0 with age := 0 } }
      else { e.wr .TXS0 0xFF with tx0 := { UartTx.reset with
        age := if !on then 2 else if old.getLsbD 6 then 0 else e.tx0.age } }
    let e := if on && v.getLsbD 5 then if old.getLsbD 5 then e else { e with rx0 := { e.rx0.stop with age := 0 } }
      else { e.wr .ASIS0 0 with rx0 := { e.rx0.stop with
        age := if !on then 2 else if old.getLsbD 5 then 0 else e.rx0.age } }
    let e := if on then e else { e.wr .RXB0 0xFF with rx0 := UartRx.reset }
    .next (if field v 5 3 = 0 then e.tame .uart0 else e)

/-- Write TXS0 (R692): with POWER0 = TXE0 = 1 it starts a transmission; it waits for INTST0 of the previous one. While transmission
is disabled the write has no effect: DESIGN CHOICE, unsafe (log entry 179). -/
def Devices.writeTxs0 (d : Devices) (v : Byte) : Res Devices :=
  if d.bit .ASIM0 7 && d.bit .ASIM0 6 then
    let e := (d.wildIf (1 < d.tx0.bits.length || d.tx0.age < 1) .uart0).wr .TXS0 v
    let bits := frame (d.fieldOf .ASIM0 3 2) (d.bit .ASIM0 1) (dataBits (d.bit .ASIM0 2) true v)
    .next { e with tx0 := e.tx0.send e.k0 bits }
  else .next d

/-- Write BRGC0 (R695). -/
def Devices.writeBrgc0 (d : Devices) (v : Byte) : Res Devices :=
  refuseIf (field v 0 5 < 8) .BRGC0 <|
    let busy := d.bit .ASIM0 6 || d.bit .ASIM0 5
    let e := d.wildIf (busy && differs 0x1F v (d.rd .BRGC0)) .uart0
    let e := e.wildIf (d.bit .ASIM0 7 && differs 0xC0 v (d.rd .BRGC0)) .uart0
    .next (e.wr .BRGC0 (v &&& 0xDF))

/-! ### UART6 -/

/-- k of UART6 (R718). -/
def Devices.k6 (d : Devices) : Nat := (d.rd .BRGC6).toNat

/-- Which power of two divides fPRS to give the base clock of UART6; none for the TM50 output (R717). -/
def uart6Tap (sel : Nat) : Option Nat := if sel ≤ 10 then some sel else none

/-- The frame of a byte on TxD6 (R723). -/
def Devices.frame6 (d : Devices) (v : Byte) : List Bool :=
  frame (d.fieldOf .ASIM6 3 2) (d.bit .ASIM6 1) (dataBits (d.bit .ASIM6 2) (d.bit .ASICL6 1) v)

/-- The low bits of a sync break field: 13 to 20 (R719). -/
def sbfBits (sel : Nat) : Nat := if sel < 5 then 16 + sel else 8 + sel

/-- Move TXB6 to TXS6: TXSF6 becomes 1 and TXBF6 0, at the first transmission one base clock later, so that the flags change
from 10 to 11 and to 01 (R716, R724, R725; log entry 56). The bits follow what is being sent. -/
def Devices.loadTxs6 (d : Devices) : Devices :=
  let first := !d.bit .ASIF6 0
  let e := { d.wr .ASIF6 (if first then 0x03 else 0x01) with tx6 := { d.tx6 with moving := first } }
  { e with tx6 := e.tx6.send e.k6 (e.frame6 (e.rd .TXB6)) }

/-- The last stop bit begins: the next byte is moved, with the stop bit two base clocks longer, and INTST6 is generated
(R725). During a sync break field a byte in TXB6 is not moved: DESIGN CHOICE, unsafe (R727; log entry 155). -/
def Devices.tx6LastBit (d : Devices) : Devices :=
  if d.tx6.sbf then d
  else
    let e := if d.bit .ASIF6 1 then
        let e := d.loadTxs6
        { e with tx6 := { e.tx6 with left := e.tx6.left + 2 } }
      else d
    e.raise .st6

/-- Nothing is left to send: INTST6 after a sync break field; a byte that came into TXB6 during the last stop bit starts when
that has become two base clocks longer, or TXSF6 becomes 0 (R716, R725, R727). A byte written to TXB6 during a sync break field has waited
with TXBF6 = 1, and starts right after the field: DESIGN CHOICE, unsafe (R727; log entry 155). -/
def Devices.tx6Empty (d : Devices) : Devices :=
  let e := { d with tx6 := { d.tx6 with sbf := false } }.raiseIf d.tx6.sbf .st6
  if e.bit .ASIF6 1 then
    if d.tx6.sbf then e.loadTxs6
    else
      let e := e.loadTxs6
      { e with tx6 := { e.tx6 with bits := true :: e.tx6.bits, left := 2 } }
  else e.putBit .ASIF6 0 false

/-- One base clock of the UART6 transmitter: a move from TXB6 to TXS6 ends; at rest a byte in TXB6 moves to TXS6 (R713, R724,
R725). -/
def Devices.tx6Clock (d : Devices) : Devices :=
  let (t, began) := d.tx6.clock d.k6
  let e := if d.tx6.moving then d.putBit .ASIF6 1 false else d
  let e := { e with tx6 := { t with moving := false } }
  if began then
    match t.bits with
    | [] => e.tx6Empty
    | [_] => e.tx6LastBit
    | _ => e
  else if t.bits.isEmpty && e.bit .ASIF6 1 then e.loadTxs6 else e

/-- The end of a UART6 reception: RXB6 unless overrun, ASIS6, and INTSR6 or INTSRE6 (R715, R726). -/
def Devices.rx6Finish (d : Devices) : Devices :=
  let ps := d.fieldOf .ASIM6 3 2
  let bits := d.rx6.bits
  let errors := frameErrors ps bits d.rx6.unread
  let e := d.wr .ASIS6 (d.rd .ASIS6 ||| errors)
  let e := if d.rx6.unread then e else e.wr .RXB6 (dataByte (d.bit .ASICL6 1) (receivedData ps bits))
  let e := { e with rx6 := { e.rx6 with active := false, unread := true } }
  if errors != 0 && !d.bit .ASIM6 0 then e.raise .sre6 else e.raise .sr6

/-- A stop bit ends sync break field reception: after more than 10.5 bits normally, with INTSR6; else reception begins anew
(R728). -/
def Devices.sbfStop (d : Devices) (n : Nat) : Devices :=
  let e := { d with rx6 := { d.rx6 with active := false } }
  if 11 ≤ n then (e.putBit .ASICL6 7 false).raise .sr6 else e

/-- A data or stop bit is sampled (R726, R728). -/
def Devices.rx6Bit (d : Devices) (r : UartRx) (n : Nat) : Devices :=
  if d.bit .ASICL6 7 then
    let e := { d with rx6 := r }
    if r.line then e.sbfStop n else e
  else
    let e := { d with rx6 := { r with bits := r.line :: r.bits } }
    if n = frameLength (d.bit .ASIM6 2) (d.fieldOf .ASIM6 3 2) then e.rx6Finish else e

/-- One base clock of the UART6 receiver. -/
def Devices.rx6Clock (d : Devices) : Devices :=
  let old := d.rx6
  let r := old.filter d.rxd6
  if !d.bit .ASIM6 5 then { d with rx6 := { old with age := r.age } }
  else if !r.active then { d with rx6 := r.start old }
  else
    let r := { r with count := r.count + 1 }
    match samplePoint d.k6 r.count with
    | none => { d with rx6 := r }
    | some 0 => { d with rx6 := { r with active := !r.line } }
    | some n => d.rx6Bit r n

/-- One base clock of UART6, which POWER6 enables (R710, R714). With free behaviour it follows none of the rules (U11). -/
def Devices.uart6Clock (d : Devices) : Devices :=
  let e := d.resume .uart6
  if !d.bit .ASIM6 7 then d else if e.isWild .uart6 then e else e.tx6Clock.rx6Clock

/-- Write ASIM6 (R714); UART6 does not start on the undivided fPRS on a slow supply (R717). Free behaviour ends with POWER6 = TXE6 =
RXE6 = 0, the operation stop mode (R710). A transmission that POWER6 = 0 cuts off leaves TxD6 high until POWER6 = 1
or the operation stop mode, in which the pin is a port pin (R721). POWER6 set by the write that sets TXE6 or RXE6, or after it, against
the order of R714 and R722, is a normal start: DESIGN CHOICE, unsafe (log entry 141); POWER6 cleared with TXE6 and RXE6 or before them
stops at once: DESIGN CHOICE, unsafe (log entry 159). ISRM6, SL6, CL6, PS60 and PS61 set by the write that sets POWER6, TXE6 or RXE6, or
BRGC6, CKSR6 and ASICL6 after it, take effect as written: DESIGN CHOICE, unsafe (R722; log entry 169). ISRM6 rewritten by the write that
clears RXE6 is a normal rewrite: DESIGN CHOICE, unsafe (R714; log entry 168). A byte in RXB6 that was not read: log entry 178. POWER6 = 0
ends the wait of two base clocks before TXE6 or RXE6 is set again: DESIGN CHOICE, unsafe (R714; log entry 186). TXE6 and RXE6 act in the write itself:
DESIGN CHOICE, unsafe (R710; log entry 194). -/
def Devices.writeAsim6 (d : Devices) (v : Byte) : Res Devices :=
  let old := d.rd .ASIM6
  refuseIf (v.getLsbD 7 && !old.getLsbD 7 && d.fieldOf .CKSR6 0 4 = 0 && d.slowSupply) .ASIM6 <|
    let busy := old.getLsbD 6 || old.getLsbD 5
    let e := d.wildIf (busy && differs 0x1C v old) .uart6
    let e := e.wildIf (old.getLsbD 6 && differs 0x02 v old) .uart6
    let e := e.wildIf (old.getLsbD 5 && v.getLsbD 5 && differs 0x01 v old) .uart6
    let e := e.wildIf (!old.getLsbD 6 && v.getLsbD 6 && e.tx6.age < 2) .uart6
    let e := e.wildIf (!old.getLsbD 5 && v.getLsbD 5 && e.rx6.age < 2) .uart6
    let e := e.wr .ASIM6 v
    let on := v.getLsbD 7
    let e := if on && v.getLsbD 6 then if old.getLsbD 6 then e else { e with tx6 := { e.tx6 with age := 0 } }
      else { e.wr .ASIF6 0 with tx6 := { UartTx.reset with
        age := if !on then 2 else if old.getLsbD 6 then 0 else e.tx6.age } }
    let e := if on && v.getLsbD 5 then if old.getLsbD 5 then e else { e with rx6 := { e.rx6.stop with age := 0 } }
      else { (e.wr .ASIS6 0).putBit .ASICL6 7 false with rx6 := { e.rx6.stop with
        age := if !on then 2 else if old.getLsbD 5 then 0 else e.rx6.age } }
    let e := if on then e else { e.wr .RXB6 0xFF with rx6 := UartRx.reset }
    let cut := !on && field v 5 3 != 0 && (d.tx6.cut || (old.getLsbD 7 && !d.tx6.bits.isEmpty))
    let e := { e with tx6 := { e.tx6 with cut := cut } }
    .next (if field v 5 3 = 0 then e.tame .uart6 else e)

/-- Write TXB6 (R713, R724, R725): the byte waits with TXBF6 = 1 until a base clock moves it to TXS6. A byte written over a
waiting one is not guaranteed, and over one just moving to TXS6 it may be lost (R716). Written while transmission is disabled the byte
is kept and not sent later, and the same value written again is sent like another: DESIGN CHOICE, unsafe (R713; log entry 179). -/
def Devices.writeTxb6 (d : Devices) (v : Byte) : Res Devices :=
  if d.bit .ASIM6 7 && d.bit .ASIM6 6 then
    let e := d.wildIf (d.tx6.age < 1) .uart6
    if e.bit .ASIF6 1 then
      let (b, e) := e.drawByte
      let (lost, e) := e.drawBit
      .next { e.wr .TXB6 b with tx6 := { e.tx6 with moving := e.tx6.moving && lost } }
    else .next ((e.wr .TXB6 v).putBit .ASIF6 1 true)
  else .next (d.wr .TXB6 v)

/-- Write CKSR6 (R717); the undivided fPRS is prohibited on a slow supply. -/
def Devices.writeCksr6 (d : Devices) (v : Byte) : Res Devices :=
  refuseIf (11 < field v 0 4 || (field v 0 4 = 0 && d.slowSupply)) .CKSR6 <|
    .next ((d.wildIf (d.bit .ASIM6 7 && differs 0x0F v (d.rd .CKSR6)) .uart6).wr .CKSR6 (v &&& 0x0F))

/-- Write BRGC6 (R718). -/
def Devices.writeBrgc6 (d : Devices) (v : Byte) : Res Devices :=
  refuseIf (v.toNat < 4) .BRGC6 <|
    let busy := d.bit .ASIM6 6 || d.bit .ASIM6 5
    .next ((d.wildIf (busy && v != d.rd .BRGC6) .uart6).wr .BRGC6 v)

/-- SBRT6 = 1 enters sync break field reception (R719, R728). With POWER6 = 0 or RXE6 = 0 it has no effect and is not remembered: DESIGN
CHOICE, unsafe (R719; log entry 154). RXB6 keeps a byte received before, which stays unread: DESIGN CHOICE, unsafe (R728; log entry
198). -/
def Devices.triggerSbfReceive (d : Devices) : Devices :=
  if d.bit .ASIM6 7 && d.bit .ASIM6 5 then
    let e := (d.wildIf (d.rx6.active && !d.bit .ASICL6 7) .uart6).putBit .ASICL6 7 true
    { e with rx6 := { e.rx6 with active := false } }
  else d

/-- SBTT6 = 1 starts a sync break field (R719, R727); again while one is being sent, it starts anew. With POWER6 = 0 or TXE6 = 0 it has no
effect and is not remembered: DESIGN CHOICE, unsafe (R719; log entry 154). With a byte in TXB6 that still waits for its base clock the
field goes first and the byte follows: DESIGN CHOICE, unsafe (R719; log entry 170). TXSF6 is 0 during the field: DESIGN CHOICE, unsafe
(R716; log entry 198). -/
def Devices.triggerSbfSend (d : Devices) : Devices :=
  if d.bit .ASIM6 7 && d.bit .ASIM6 6 then
    let e := d.wildIf (!d.tx6.bits.isEmpty && !d.tx6.sbf) .uart6
    let bits := List.replicate (sbfBits (e.fieldOf .ASICL6 2 3)) false ++ [true]
    let t := if e.tx6.bits.isEmpty then e.tx6.send e.k6 bits else { e.tx6 with bits := bits, left := 2 * e.k6 }
    { e with tx6 := { t with sbf := true } }
  else d

/-- Write ASICL6 (R719): SBRF6 is read only, the triggers read 0. A 0 written to a trigger during its field changes nothing, and SBL62 to
SBL60 rewritten during a field count from the next one on: DESIGN CHOICE, unsafe (log entry 156). -/
def Devices.writeAsicl6 (d : Devices) (v : Byte) : Res Devices :=
  let busy := d.bit .ASIM6 6 || d.bit .ASIM6 5
  let e := d.wildIf (busy && differs 0x03 v (d.rd .ASICL6)) .uart6
  let e := e.wr .ASICL6 (merge 0x1F (e.rd .ASICL6 &&& 0x80) v)
  let e := if v.getLsbD 6 then e.triggerSbfReceive else e
  .next (if v.getLsbD 5 then e.triggerSbfSend else e)

/-- Write ISC (R720): the pin pairs of the product. A rewrite while a unit uses the input or output switches it at once: DESIGN CHOICE,
unsafe (log entry 160). -/
def Devices.writeIsc (d : Devices) (v : Byte) : Res Devices :=
  let ok := field v 4 2 = 0 || field v 4 2 = (if d.series.isLf then 1 else 2)
  refuseIf (!ok) .ISC (.next (d.wr .ISC (v &&& 0x3F)))

end Sys2Proof.Machine
end

