-- ==== Sys2Proof/Machine/Csi.lean ====
section
/-! DEFINITION. The clocked serial interfaces CSI10 (R740 to R747) and CSIA0 (R759 to R1002): clock edges, and the accesses
to their registers. -/

namespace Sys2Proof.Machine

/-! ### CSI10 -/

/-- A transfer is in progress: CSOT10 (R743). -/
def Devices.csot10 (d : Devices) : Bool := d.bit .CSIM10 0

/-- Shift by one and insert the received bit (R746). -/
def shiftIn (lsb : Bool) (v : Byte) (b : Bool) : Byte :=
  if lsb then setBit (v >>> 1) 7 b else setBit (v <<< 1) 0 b

/-- The byte the shift register works on: SOTB10 until the first shift of a transmission, then SIO10 (R747). -/
def Devices.csi10Byte (d : Devices) : Byte :=
  if d.csi10.edges ≤ (if d.bit .CSIC10 3 then 0 else 1) && d.bit .CSIM10 6 then d.rd .SOTB10 else d.rd .SIO10

/-- SO10 takes the next bit; low in receive mode (R743, R747). -/
def Devices.csi10Out (d : Devices) : Devices :=
  { d with csi10 := { d.csi10 with so := d.bit .CSIM10 6 && firstBit (d.bit .CSIM10 4) d.csi10Byte } }

/-- SI10 is captured (R746). -/
def Devices.csi10Capture (d : Devices) : Devices :=
  d.wr .SIO10 (shiftIn (d.bit .CSIM10 4) d.csi10Byte (d.pinRead (1, 2)))

/-- The end of the eighth bit: CSIIF10, CSOT10 = 0 (R746). -/
def Devices.csi10Finish (d : Devices) : Devices :=
  let e := d.putBit .CSIM10 0 false
  { e with csi10 := { e.csi10 with edges := 0 } }.raise .csi10st0

/-- One edge of SCK10. With DAP10 = 0 the first edge of a pair changes SO10 and the second captures SI10; with DAP10 = 1 the
first captures and the second changes SO10, except after the last bit (R744, R747). With both a transfer ends at the sixteenth edge:
DESIGN CHOICE, unsafe (R746; log entry 196). -/
def Devices.csi10Edge (d : Devices) : Devices :=
  let leading := d.csi10.edges % 2 == 0
  let last := d.csi10.edges == 15
  let e := if leading == d.bit .CSIC10 3 then d.csi10Capture
    else if last then d else d.csi10Out
  let e := { e with csi10 := { e.csi10 with edges := e.csi10.edges + 1 } }
  if last then e.csi10Finish else e

/-- Which power of two divides fPRS to give the edges of SCK10 as master; none as slave (R744). -/
def csi10Tap (sel : Nat) : Option Nat := if sel = 7 then none else some sel

/-- A transfer is in progress and follows its clock, which one with free behaviour does not (U11). -/
def Devices.csi10Busy (d : Devices) : Bool := d.csot10 && !d.isWild .csi10

/-- One edge time of the master clock. -/
def Devices.csi10Clock (d : Devices) : Devices := if d.csi10Busy then d.csi10Edge else d

/-- Edges at the SCK10 pin move the transfer as slave (R744). An edge from the level that the interface does not expect is passed over:
DESIGN CHOICE, unsafe (log entry 195). -/
def Devices.csi10Event (d before : Devices) : Devices :=
  if d.csi10Busy && d.fieldOf .CSIC10 0 3 = 7 then
    let old := before.pinRead (1, 1)
    let new := d.pinRead (1, 1)
    if old == d.sck10 && new != old then d.csi10Edge else d
  else d

/-- Start a transfer: CSOT10 = 1; with DAP10 = 1 the first bit goes out at once (R746, R747). -/
def Devices.csi10Start (d : Devices) : Devices :=
  let e := d.putBit .CSIM10 0 true
  let e := { e with csi10 := { e.csi10 with edges := 0 } }
  if e.bit .CSIC10 3 then e.csi10Out else e

/-- SO10 takes a level that nothing states. -/
def Devices.freeSo10 (d : Devices) : Devices := let (b, e) := d.drawBit; { e with csi10 := { e.csi10 with so := b } }

/-- Write CSIM10 (R743). Settings made in another order than that of R746 take effect as written: DESIGN CHOICE, unsafe (log entry
143). R747 states no level of SO10 with CSIE10 = TRMD10 = 1 before the first transfer, and says that writes of CSIE10, TRMD10 and DIR10
change it: after such a write it is a free level: DESIGN CHOICE, safe (log entry 172). -/
def Devices.writeCsim10 (d : Devices) (v : Byte) : Res Devices :=
  refuseIf (v.getLsbD 5) .CSIM10 <|
    let e := d.wildIf (d.csot10 && differs 0x50 v (d.rd .CSIM10)) .csi10
    if v.getLsbD 7 then
      let f := e.wr .CSIM10 (merge 0xD0 (e.rd .CSIM10 &&& 0x01) v)
      .next (if v.getLsbD 6 && differs 0xD0 v (d.rd .CSIM10) then f.freeSo10 else f)
    else
      let e := ((e.wr .CSIM10 (v &&& 0x50)).wr .SIO10 0).tame .csi10
      .next { e with csi10 := ⟨0, false⟩ }

/-- Write CSIC10; not while CSIE10 = 1 (R744). The limits of the serial clock, 4 MHz, or 2 MHz below 2.7 V, are not looked at: a faster
one is carried out: DESIGN CHOICE, unsafe (R744; log entry 171). -/
def Devices.writeCsic10 (d : Devices) (v : Byte) : Res Devices :=
  .next ((d.wildIf (d.bit .CSIM10 7) .csi10).wr .CSIC10 (v &&& 0x1F))

/-- Write SOTB10: in transmit mode it starts a transfer (R741). -/
def Devices.writeSotb10 (d : Devices) (v : Byte) : Res Devices :=
  let e := (d.wildIf d.csot10 .csi10).wr .SOTB10 v
  .next (if e.bit .CSIM10 7 && e.bit .CSIM10 6 && !e.csot10 then e.csi10Start else e)

/-- Read SIO10: in receive mode it starts a reception; during a transfer the value is free (R742, U11). -/
def Devices.readSio10 (d : Devices) : Byte × Devices :=
  if d.csot10 then d.drawByte
  else (d.rd .SIO10, if d.bit .CSIM10 7 && !d.bit .CSIM10 6 then d.csi10Start else d)

/-! ### CSIA0 -/

/-- A transfer is in progress: TSF0 (R762). -/
def Devices.tsf0 (d : Devices) : Bool := d.bit .CSIS0 0

/-- Base clocks of half a period of the transfer clock: fW/6, /8, /16, /32 (R764). -/
def Devices.csiaHalf (d : Devices) : Nat :=
  match d.fieldOf .BRGCA0 0 2 with
  | 0 => 3 | 1 => 4 | 2 => 8 | _ => 16

/-- A byte between the internal bus and SIOA0: reversed with DIR0 = 1 (R1000). -/
def Devices.csiaBus (d : Devices) (v : Byte) : Byte := if d.bit .CSIMA0 1 then reverse8 v else v

/-- The byte of the buffer RAM that ADTC0 addresses (R768). -/
def Devices.bufferAt (d : Devices) : Nat := 0xFA00 + d.fieldOf .ADTC0 0 5

/-- Begin the eight bits of a byte; as master the first falling edge of SCKA0 comes half a transfer clock later: DESIGN CHOICE, unsafe
(R1000; log entry 196). -/
def Devices.csiaBegin (d : Devices) : Devices :=
  { d with csia0 := { d.csia0 with left := d.csiaHalf, edges := 0, gap := 0, inGap := false } }

/-- Load the next byte of an automatic transfer from the buffer RAM (R1001). -/
def Devices.csiaLoad (d : Devices) : Devices :=
  (d.wr .SIOA0 (d.csiaBus (d.ram.get d.bufferAt))).csiaBegin

/-- An automatic transfer starts at the first byte of the buffer RAM: a suspended one is not resumed (R763, R1001; log entry
92). -/
def Devices.csiaStart (d : Devices) : Devices := ((d.putBit .CSIS0 0 true).wr .ADTC0 0).csiaLoad

/-- A transfer ends: INTACSI, TSF0 = 0, the triggers clear (R763, R1000, R1001). -/
def Devices.csiaEnd (d : Devices) : Devices :=
  (((d.putBit .CSIS0 0 false).wr .CSIT0 0)).raise .acsi

/-- After the interval: the end of a byte transfer, of the specified range or of a suspension, the start of a transfer that
was triggered meanwhile, or the next byte (R763, R1000, R1001, R1002). ATSTP0 set in the interval suspends at its end, and a suspension
after the last byte leaves ADTC0 at it: DESIGN CHOICE, unsafe (R763, R1002; log entry 173). -/
def Devices.csiaNext (d : Devices) : Devices :=
  let e := { d with csia0 := { d.csia0 with inGap := false, edges := 0, again := false } }
  if !e.bit .CSIMA0 6 || e.bit .CSIT0 1 then e.csiaEnd
  else if d.csia0.again then e.csiaStart
  else if e.fieldOf .ADTC0 0 5 = e.fieldOf .ADTP0 0 5 then
    if e.bit .CSIMA0 5 then (e.wr .ADTC0 0).csiaLoad else (e.wr .ADTC0 0).csiaEnd
  else (e.wr .ADTC0 ((e.rd .ADTC0 + 1) &&& 0x1F)).csiaLoad

/-- The eighth bit is done: the received byte goes to the buffer RAM in automatic mode; then the interval of ADTI0 serial
clocks as master, which a suspension does not wait for (R766, R1001, R1002). In 1-byte mode too TSF0 stays 1 through the interval and
falls with INTACSI: DESIGN CHOICE, unsafe (R762, R1000; log entry 187). As slave there is no interval whatever ADTI0 holds: DESIGN
CHOICE, unsafe (R766; log entry 197). -/
def Devices.csiaByteDone (d : Devices) : Devices :=
  let auto := d.bit .CSIMA0 6
  let e := if auto && d.bit .CSIMA0 2 then { d with ram := d.ram.put d.bufferAt (d.csiaBus (d.rd .SIOA0)) } else d
  let gap := if e.bit .CSIMA0 4 then 2 * e.csiaHalf * e.fieldOf .ADTI0 0 6 else 0
  if gap = 0 || (auto && e.bit .CSIT0 1) then e.csiaNext
  else { e with csia0 := { e.csia0 with gap := gap, inGap := true, edges := 0 } }

/-- One edge of SCKA0: SOA0 changes at the falling edge, SIA0 is taken at the rising edge (R1000); a bit shifted in while
reception is disabled is free. -/
def Devices.csiaEdge (d : Devices) : Devices :=
  let n := d.csia0.edges
  if n % 2 = 0 then
    { d with csia0 := { d.csia0 with so := (d.rd .SIOA0).getLsbD 7, edges := n + 1, left := d.csiaHalf } }
  else
    let (b, e) := if d.bit .CSIMA0 2 then (d.pinRead (1, 5), d) else d.drawBit
    let e := e.wr .SIOA0 (shiftIn false (e.rd .SIOA0) b)
    let e := { e with csia0 := { e.csia0 with edges := n + 1, left := e.csiaHalf } }
    if n = 15 then e.csiaByteDone else e

/-- CSIA0 is suspended: an automatic transfer in HALT mode (R1002). -/
def Devices.csiaHalted (d : Devices) : Bool := d.mode = .halt && d.bit .CSIMA0 6

/-- A transfer is in progress and follows its clock: it is not suspended, and its behaviour is not free (U11). -/
def Devices.csiaBusy (d : Devices) : Bool := d.tsf0 && !d.csiaHalted && !d.isWild .csia0

/-- One base clock fW as master (R764, R766). -/
def Devices.csiaClock (d : Devices) : Devices :=
  if d.csiaBusy && d.bit .CSIMA0 4 then
    if d.csia0.inGap then
      if d.csia0.gap ≤ 1 then d.csiaNext else { d with csia0 := { d.csia0 with gap := d.csia0.gap - 1 } }
    else if d.csia0.left ≤ 1 then d.csiaEdge
    else { d with csia0 := { d.csia0 with left := d.csia0.left - 1 } }
  else d

/-- Edges at the SCKA0 pin move the transfer as slave (R1000), not in STOP mode (R848). An edge from the level that the interface does
not expect is passed over: DESIGN CHOICE, unsafe (log entry 195). -/
def Devices.csiaEvent (d before : Devices) : Devices :=
  if d.csiaBusy && !d.bit .CSIMA0 4 && d.mode != .stop then
    let old := before.pinRead (1, 4)
    let new := d.pinRead (1, 4)
    if old == d.scka0 && new != old then d.csiaEdge else d
  else d

/-- The CPU accesses the buffer RAM: in the interval of an automatic transfer the access may conflict with that of CSIA0 and extend
the interval, by a free number of base clocks, which may be 0 (R768; log entry 142). -/
def Devices.csiaContend (d : Devices) : Devices :=
  if d.bit .CSIMA0 6 && d.csia0.inGap then
    let (w, e) := d.drawWord
    { e with csia0 := { e.csia0 with gap := e.csia0.gap + w.toNat } }
  else d

/-- SOA0 takes a level that nothing states. -/
def Devices.freeSoa0 (d : Devices) : Devices := let (b, e) := d.drawBit; { e with csia0 := { e.csia0 with so := b } }

/-- The buffer RAM is not guaranteed to keep its contents when CSIAE0 is cleared (R761). -/
def Devices.freeBuffer (d : Devices) : Devices :=
  (List.range 32).foldl (fun e n => let (b, e) := e.drawByte; { e with ram := e.ram.put (0xFA00 + n) b }) d

/-- A rewrite of a CSIA0 register during a transfer (R762). -/
def Devices.csiaRewrite (d : Devices) (r : Sfr) (v : Byte) : Devices := d.wildIf (d.tsf0 && v != d.rd r) .csia0

/-- Write CSIMA0 (R761): CSIAE0 = 0 resets the interface and aborts a transfer (R1001). As master CSIA0 does not start on the
undivided fPRS on a slow supply (R762). The level of SOA0 from the write that enables the transmission to the first transfer is free:
DESIGN CHOICE, safe (R761; log entry 172). -/
def Devices.writeCsima0 (d : Devices) (v : Byte) : Res Devices :=
  let v := v &&& 0xFE
  refuseIf (v.getLsbD 7 && v.getLsbD 4 && !(d.bit .CSIMA0 7 && d.bit .CSIMA0 4) && !d.bit .CSIS0 6 && d.slowSupply) .CSIMA0 <|
    if v.getLsbD 7 then
      let e := (d.csiaRewrite .CSIMA0 v).wr .CSIMA0 v
      .next (if v.getLsbD 3 && differs 0x88 v (d.rd .CSIMA0) then e.freeSoa0 else e)
    else
      let e := if d.bit .CSIMA0 7 then d.freeBuffer else d
      let e := ((((e.wr .CSIMA0 v).wr .ADTC0 0).wr .CSIT0 0).wr .SIOA0 0).putBit .CSIS0 0 false
      .next { e.tame .csia0 with csia0 := Csia0.reset }

/-- Write CSIS0 (R762): TSF0 is read only, and the undivided fPRS is prohibited on a slow supply. CKS00 rewritten with
CSIAE0 = 1, which R762 forbids and step (2) of R1001 does, takes effect while no transfer is in progress: DESIGN CHOICE, unsafe
(log entry 92). Settings made in another order than that of R1000 and R1001 take effect as written: DESIGN CHOICE, unsafe (log entry
143). -/
def Devices.writeCsis0 (d : Devices) (v : Byte) : Res Devices :=
  refuseIf (outside 0x41 v || (!v.getLsbD 6 && d.slowSupply)) .CSIS0 <|
    .next ((d.wildIf (d.tsf0 && differs 0x40 v (d.rd .CSIS0)) .csia0).wr .CSIS0 (merge 0x40 (d.rd .CSIS0) v))

/-- Write CSIT0 (R763): effective in automatic mode; a start triggered during a transfer takes place when the byte in progress
has ended. ATSTP0 set with no transfer in progress, or together with ATSTA0, stays set and suspends the next transfer after its first
byte: DESIGN CHOICE, unsafe (R763; log entry 173). ATSTA0 written 1 where it reads 1 triggers nothing, and ATSTP0 written back to 0
before the byte ends takes the suspension back: DESIGN CHOICE, unsafe (R763; log entry 188). -/
def Devices.writeCsit0 (d : Devices) (v : Byte) : Res Devices :=
  if d.bit .CSIMA0 7 && d.bit .CSIMA0 6 then
    let starts := v.getLsbD 0 && !d.bit .CSIT0 0
    let e := d.wr .CSIT0 (v &&& 0x03)
    .next (if !starts then e else if d.tsf0 then { e with csia0 := { e.csia0 with again := true } } else e.csiaStart)
  else .next d

/-- Write BRGCA0 (R764). The limits of the transfer clock are not looked at: DESIGN CHOICE, unsafe (log entry 171). -/
def Devices.writeBrgca0 (d : Devices) (v : Byte) : Res Devices :=
  .next ((d.csiaRewrite .BRGCA0 (v &&& 0x03)).wr .BRGCA0 (v &&& 0x03))

/-- Write ADTP0 (R765). -/
def Devices.writeAdtp0 (d : Devices) (v : Byte) : Res Devices :=
  refuseIf (outside 0x1F v) .ADTP0 (.next ((d.csiaRewrite .ADTP0 v).wr .ADTP0 v))

/-- Write ADTI0 (R766). -/
def Devices.writeAdti0 (d : Devices) (v : Byte) : Res Devices :=
  .next ((d.csiaRewrite .ADTI0 (v &&& 0x3F)).wr .ADTI0 (v &&& 0x3F))

/-- Write SIOA0: in 1-byte mode it starts a transfer and makes SOA0 low (R760, R1000). With CSIAE0 = 0 the write has no effect: DESIGN
CHOICE, unsafe (log entry 197). -/
def Devices.writeSioa0 (d : Devices) (v : Byte) : Res Devices :=
  if d.bit .CSIMA0 7 then
    let e := (d.csiaRewrite .SIOA0 (d.csiaBus v)).wr .SIOA0 (d.csiaBus v)
    if e.tsf0 || e.bit .CSIMA0 6 then .next e
    else
      let e := (e.putBit .CSIS0 0 true).csiaBegin
      .next { e with csia0 := { e.csia0 with so := false } }
  else .next d

/-- Read SIOA0 (R760, R1000). -/
def Devices.readSioa0 (d : Devices) : Byte := d.csiaBus (d.rd .SIOA0)

end Sys2Proof.Machine
end

