-- ==== Sys2Proof/Machine/Lcd.lean ====
section
/-! DEFINITION. The LCD controller/driver (R770 to R784) with its segment key scan, and the key return mode register
(R830). -/

namespace Sys2Proof.Machine

/-- Segment key scan is in use; not in static mode (R778). -/
def Devices.keyScan (d : Devices) : Bool := d.bit .LCDMD 0 && d.lcdCount != 1

/-- The slice after slice `n`: with key scan one period more than display slices (R778). -/
def Devices.lcdAfter (d : Devices) (n : Nat) : Nat :=
  if n + 1 < d.lcdCount + (if d.keyScan then 1 else 0) then n + 1 else 0

/-- An enabled key input is low. -/
def Devices.keyLow (d : Devices) : Bool := (List.range 8).any fun n => d.bit .KRM n && !d.key n

/-- One LCD source clock (R778): the next slice at the end of a period, KSF in the key scan period; two clocks after its
rise the key inputs are accepted, so a key that holds one low sets KRIF. Whether the level change that the automatic pull-up of
R777 makes at an undriven P12 used as RxD6 is an edge for INTP0 the spec leaves open: the model takes it as one, like every
other change of a pin: DESIGN CHOICE, unsafe (R410; log entry 42). -/
def Devices.lcdClock (d : Devices) : Devices :=
  if d.bit .LCDM 6 then
    if d.lcd.count + 1 < d.lcdPeriod then
      let e := { d with lcd := { d.lcd with count := d.lcd.count + 1 } }
      e.raiseIf (e.ksf && e.lcd.count == 2 && e.keyLow) .kr
    else
      let n := d.lcdAfter d.lcd.slice
      let e := { d with lcd := ⟨n, 0⟩ }
      e.putBit .LCDMD 1 (e.keyScan && n == e.lcdCount)
  else d

/-- The source of the LCD source clock: fXT, fPRS divided, or fRL/8 (R773). -/
def lcdTap (sel : Nat) : Option Nat :=
  match sel with
  | 1 => some 6 | 2 => some 7 | 3 => some 8 | _ => none

/-- Some key scan input has its pull-up bit set, is not in input mode, or is a transmit output, each of which is prohibited
(R774, R777). -/
def Devices.keyScanBad (d : Devices) : Bool :=
  d.bit .LCDMD 0 && (List.range 8).any fun n =>
    d.bit .KRM n &&
      match keyPin d.series n with
      | some p => d.bitOf? (pullReg p.1) p.2 false || d.outputMode p || d.transmitPin p
      | none => false

/-- Refuse a write that leaves a key scan input with a prohibited setting (R777, U11). -/
def Devices.checkKeyScan (r : Sfr) (x : Res Devices) : Res Devices :=
  andThen x fun e => refuseIf e.keyScanBad r (.next e)

/-- Write LCDMD (R771): KSF is read only. KSON = 0 in the key scan period ends it, and the slices begin anew; KSON = 1 in static mode is
taken and scans nothing: DESIGN CHOICE, unsafe (R778; log entry 174). -/
def Devices.writeLcdmd (d : Devices) (v : Byte) : Res Devices :=
  refuseIf (outside 0x33 v || field v 4 2 = 2) .LCDMD <| Devices.checkKeyScan .LCDMD <|
    if v.getLsbD 0 then .next (d.wr .LCDMD (merge 0x31 (d.rd .LCDMD) v))
    else
      let e := d.wr .LCDMD (v &&& 0x30)
      .next (if d.ksf then { e with lcd := ⟨0, 0⟩ } else e)

/-- Write LCDM (R772): with SCOC = 0 the outputs are at ground and the slices begin anew. The number of slices rewritten while SCOC = 1
takes effect at once: DESIGN CHOICE, unsafe (R778, R779; log entry 174). -/
def Devices.writeLcdm (d : Devices) (v : Byte) : Res Devices :=
  refuseIf (outside 0xD7 v || field v 0 3 = 5 || field v 0 3 = 6) .LCDM <|
    let e := d.wr .LCDM v
    .next (if v.getLsbD 6 then e else { e.putBit .LCDMD 1 false with lcd := ⟨0, 0⟩ })

/-- Write LCDC0 (R773); while SCOC = 1 it takes effect at once: DESIGN CHOICE, unsafe (log entry 174). -/
def Devices.writeLcdc0 (d : Devices) (v : Byte) : Res Devices :=
  refuseIf (outside 0x77 v || 4 < field v 4 3 || 5 < field v 0 3) .LCDC0 (.next (d.wr .LCDC0 v))

/-- Write KRM (R775, R830): a change may set KRIF. -/
def Devices.writeKrm (d : Devices) (v : Byte) : Res Devices :=
  let v := v &&& krMask d.series
  let e := d.wr .KRM v
  Devices.checkKeyScan .KRM <|
    if v = d.rd .KRM then .next e else let (b, e) := e.drawBit; .next (e.raiseIf b .kr)

end Sys2Proof.Machine
end

