-- ==== Sys2Proof/Machine/Mcg.lean ====
section
/-! DEFINITION. The Manchester code generator (R790 to R797): one base clock, and the writes of its registers. A bit lasts
2k base clocks. -/

namespace Sys2Proof.Machine

/-- The bits of MC0TX in the order of transmission: the low N bits, from the first or from the last (R792). -/
def Devices.mcgBits (d : Devices) : List Bool :=
  let low := (bitList (d.rd .MC0TX)).take (d.fieldOf .MC0BIT 0 3 + 1)
  if d.bit .MC0CTL0 4 then low else low.reverse

/-- Load the shift register: MC0TSF = 1, INTMCG (R797). -/
def Devices.mcgLoad (d : Devices) : Devices :=
  let e := d.putBit .MC0STR 7 true
  { e with mcg := ⟨e.mcgBits, 2 * e.kMcg, false, false, 0⟩ }.raise .mcg

/-- The last bit is sent: the next byte follows at once, or two clocks later where it came late, or MC0TSF = 0 (R797). -/
def Devices.mcgDone (d : Devices) : Devices :=
  if d.mcg.full then
    if d.mcg.late then { d with mcg := { d.mcg with bits := [], delay := 2 } } else d.mcgLoad
  else { d.putBit .MC0STR 7 false with mcg := ⟨[], 0, false, false, 0⟩ }

/-- One base clock (R797). A generator with free behaviour does not follow it (U11). -/
def Devices.mcgClock (d : Devices) : Devices :=
  if d.isWild .mcg then d
  else
    match d.mcg.bits with
    | [] =>
      if d.mcg.full then
        if d.mcg.delay ≤ 1 then d.mcgLoad else { d with mcg := { d.mcg with delay := d.mcg.delay - 1 } }
      else d
    | _ :: rest =>
      if 1 < d.mcg.left then { d with mcg := { d.mcg with left := d.mcg.left - 1 } }
      else
        match rest with
        | [] => d.mcgDone
        | _ => { d with mcg := { d.mcg with bits := rest, left := 2 * d.kMcg } }

/-- A byte written now comes too late for a gapless transfer: half a bit and one clock before the end of the last bit
(R797). -/
def Devices.mcgLate (d : Devices) : Bool := d.mcg.bits.length == 1 && d.mcg.left ≤ d.kMcg + 1

/-- Write MC0TX (R791, R797): with MC0PWR = 1 it starts a transmission, or waits for the end of the present one, and with fPRS
stopped, where the generator cannot operate, for the clock (R415, R495). With free behaviour it starts nothing by itself (U11). A byte written over one that waits takes its place:
DESIGN CHOICE, unsafe (R797; log entry 175). The start timing is the write itself, and the first bit lasts a whole baud period from
there: DESIGN CHOICE, unsafe (R797; log entry 192). -/
def Devices.writeMc0tx (d : Devices) (v : Byte) : Res Devices :=
  let e := d.wr .MC0TX v
  if !e.bit .MC0CTL0 7 || e.isWild .mcg then .next e
  else if e.bit .MC0STR 7 then
    .next { e with mcg := { e.mcg with full := true, late := e.mcg.late || (!e.mcg.full && e.mcgLate) } }
  else .next (if e.prsRuns then e.mcgLoad else { e with mcg := { e.mcg with full := true } })

/-- Write MC0CTL0 (R793): the format changes with MC0PWR = 0 only; MC0PWR = 0 stops the generator. It does not start on the
undivided fPRS on a slow supply (R794). A format changed by the write that stops it: log entry 168. -/
def Devices.writeMc0ctl0 (d : Devices) (v : Byte) : Res Devices :=
  let v := v &&& 0x93
  refuseIf (v.getLsbD 7 && !d.bit .MC0CTL0 7 && d.fieldOf .MC0CTL1 0 3 = 0 && d.slowSupply) .MC0CTL0 <|
    if v.getLsbD 7 then .next ((d.wildIf (d.bit .MC0CTL0 7 && differs 0x13 v (d.rd .MC0CTL0)) .mcg).wr .MC0CTL0 v)
    else .next { ((d.tame .mcg).wr .MC0CTL0 v).wr .MC0STR 0 with mcg := ⟨[], 0, false, false, 0⟩ }

/-- Write MC0CTL1; with MC0PWR = 0 only, and not the undivided fPRS on a slow supply (R794). -/
def Devices.writeMc0ctl1 (d : Devices) (v : Byte) : Res Devices :=
  refuseIf (5 < field v 0 3 || (field v 0 3 = 0 && d.slowSupply)) .MC0CTL1 <|
    .next ((d.wildIf (d.bit .MC0CTL0 7 && differs 0x07 v (d.rd .MC0CTL1)) .mcg).wr .MC0CTL1 (v &&& 0x07))

/-- Write MC0CTL2; with MC0PWR = 0 only (R795). -/
def Devices.writeMc0ctl2 (d : Devices) (v : Byte) : Res Devices :=
  .next ((d.wildIf (d.bit .MC0CTL0 7 && differs 0x1F v (d.rd .MC0CTL2)) .mcg).wr .MC0CTL2 (v &&& 0x1F))

end Sys2Proof.Machine
end

