-- ==== Sys2Proof/Machine/Remote.lean ====
section
/-! DEFINITION. The remote-control receiver (R810 to R822): the noise canceller, the state machine of a frame, and the
accesses to its registers. -/

namespace Sys2Proof.Machine

/-- The reception mode: 0 type A, 1 type B, 2 type C (R811). -/
def Devices.rmType (d : Devices) : Nat := d.fieldOf .RMCN 2 2

/-- A compare register as a number. -/
def Devices.width (d : Devices) (r : Sfr) : Nat := (d.rd r).toNat

/-- The counter is in the window from `s` up to `l` (R814). Windows that break the relations R814 requires are judged as they stand, that
of data 0 first: DESIGN CHOICE, unsafe (log entry 180). -/
def Devices.within (d : Devices) (s l : Sfr) (n : Nat) : Bool := d.width s ≤ n && n < d.width l

/-- Set a bit of INTS and the shared request flag (R816). -/
def Devices.rmRequest (d : Devices) (n : Nat) : Devices := (d.putBit .INTS n true).raise .remote

/-- Clear RMSR and RMSCR (R812, R813). -/
def Devices.rmClear (d : Devices) : Devices := (d.wr .RMSR 0).wr .RMSCR 0

/-- Go on in a phase. -/
def Devices.rmGo (d : Devices) (p : RemotePhase) : Devices := { d with remote := { d.remote with phase := p } }

/-- Requests are made: in type C only after the first INTDFULL (R819). -/
def Devices.rmSpeaks (d : Devices) : Bool := d.rmType != 2 || d.remote.gotFull

/-- Data measurement of the present level. -/
def Devices.rmData (d : Devices) : Devices := d.rmGo (if d.remote.level then .dataHigh else .dataLow)

/-- A failed judgement (R819): INTRERR where requests are made; RMSR and RMSCR clear. After a rising edge the guide pulse is
measured at once, else from the next rising edge; type C measures data, without an edge from the next edge of either kind (log entry
41). -/
def Devices.rmError (d : Devices) (edge : Bool) : Devices :=
  let e := (if d.rmSpeaks then d.rmRequest 0 else d).rmClear
  if !edge then e.rmGo .guideWait
  else if e.rmType = 2 then e.rmData
  else e.rmGo (if e.remote.level then .guideHigh else .guideWait)

/-- A data bit is received (R812, R813): the eighth fills RMDR with INTDFULL. -/
def Devices.rmBit (d : Devices) (b : Bool) : Devices :=
  let e := d.wr .RMSR (setBit (d.rd .RMSR >>> 1) 7 b)
  let n := (e.fieldOf .RMSCR 0 3 + 1) % 8
  let e := (e.wr .RMSCR (BitVec.ofNat 8 n)).rmGo .dataLow
  if n = 0 then
    let e := ((e.wr .RMDR (e.rd .RMSR)).wr .RMSR 0).rmRequest 3
    { e with remote := { e.remote with gotFull := true } }
  else e

/-- The end width is reached: INTREND, and the circuit waits for the read of RMSR (R819). -/
def Devices.rmEnd (d : Devices) : Devices :=
  if d.rmSpeaks then (d.rmRequest 2).rmGo .ended else d.rmClear.rmGo .guideWait

/-- End-width measurement starts (R815, R819). -/
def Devices.rmEndStart (d : Devices) : Devices :=
  { d with remote := { d.remote with endCount := 0 } }.rmGo .endWidth

/-- An edge of the measured signal ends a level that lasted `n` clocks; the new level is in place (R819). -/
def Devices.rmEdge (d : Devices) (n : Nat) : Devices :=
  match d.remote.phase with
  | .guideWait => if d.rmType = 2 then d.rmData else if d.remote.level then d.rmGo .guideHigh else d
  | .guideHigh =>
    if d.within .RMGPHS .RMGPHL n then
      if d.rmType = 0 then (d.rmRequest 1).rmGo .dataLow else d.rmGo .guideLow
    else d.rmGo .guideWait
  | .guideLow =>
    if d.within .RMGPLS .RMGPLL n then (d.rmRequest 1).rmGo .dataHigh else d.rmGo .guideWait
  | .dataLow => if d.within .RMDLS .RMDLL n then d.rmGo .dataHigh else d.rmError true
  | .dataHigh =>
    if d.within .RMDH0S .RMDH0L n then d.rmBit false
    else if d.within .RMDH1S .RMDH1L n then d.rmBit true
    else d.rmError true
  | .endWidth => d.rmError true
  | .ended => d

/-- The level goes on and has lasted `n` clocks: the judgements made without an edge (R819). -/
def Devices.rmLong (d : Devices) (n : Nat) : Devices :=
  match d.remote.phase with
  | .dataLow =>
    if n = d.width .RMDLL then if d.rmType = 0 then d.rmEndStart else d.rmError false else d
  | .dataHigh =>
    if n = d.width .RMDH1L then if d.rmType = 0 then d.rmError false else d.rmEndStart else d
  | _ => d

/-- The end-width count, before an edge is looked at (R819). The level and the end width are each counted up to the value of their
register and one clock more, so that a low level of RMDLL + 1 + RMER + 1 clocks is needed (R814; log entry 115). -/
def Devices.rmEndCount (d : Devices) : Devices :=
  if d.remote.phase = .endWidth then
    let e := { d with remote := { d.remote with endCount := d.remote.endCount + 1 } }
    if e.width .RMER + 2 ≤ e.remote.endCount then e.rmEnd else e
  else d

/-- One clock of the input stage: the pin is synchronised, then the noise canceller takes one sample. Gives the internal RIN,
2 to 3 clocks behind the pin, and 3 to 4 with NCW = 1 (R818). -/
def Devices.rmSample (d : Devices) : Bool × Devices :=
  let r := d.remote
  let samp2 := if r.sync == r.samp1 then r.samp1 else r.samp2
  let samp3 := if r.sync == r.samp2 then r.samp2 else r.samp3
  (if d.bit .RMCN 6 then samp3 else samp2,
    { d with remote := { r with sync := d.rin != d.bit .RMCN 4, samp1 := r.sync, samp2 := samp2, samp3 := samp3 } })

/-- One clock of fREMPRS: the measured signal is RIN in type A, its inversion in types B and C (R810); every edge requests
INTRIN (R821, D19). -/
def Devices.rmStep (d : Devices) : Devices :=
  let (rin, e) := d.rmSample
  let measured := rin != (e.rmType != 0)
  let n := e.remote.count + 1
  let e := e.rmEndCount
  if measured = e.remote.level then ({ e with remote := { e.remote with count := min 256 n } }).rmLong n
  else ({ e with remote := { e.remote with level := measured, count := 0 } }.raise .rin).rmEdge n

/-- One clock of fREM while RMEN = 1; with PRSEN = 1 every second one counts (R811). A receiver with free behaviour does not follow it
(U11). -/
def Devices.remoteClock (d : Devices) : Devices :=
  if d.bit .RMCN 7 && !d.isWild .remote then
    let e := { d with remote := { d.remote with half := !d.remote.half } }
    if e.bit .RMCN 5 && e.remote.half then e else e.rmStep
  else d

/-- Which power of two divides fPRS to give fREM; none for fSUB (R811). -/
def remoteTap (sel : Nat) : Option Nat := if sel ≤ 2 then some (6 + sel) else none

/-- RMEN becomes 1: the present level is the first sample; type C measures data at once (R819). -/
def Devices.rmStart (d : Devices) : Devices :=
  let s := d.rin != d.bit .RMCN 4
  let e := { d with remote := { Remote.reset with
    sync := s, samp1 := s, samp2 := s, samp3 := s, level := s != (d.rmType != 0) } }
  if e.rmType = 2 then e.rmData else e

/-- Write RMCN (R811): settings change with RMEN = 0 only, which clears RMSR, RMSCR and RMDR. Settings changed by the write that sets or
clears RMEN take effect as written: DESIGN CHOICE, unsafe (log entry 168). -/
def Devices.writeRmcn (d : Devices) (v : Byte) : Res Devices :=
  refuseIf (field v 2 2 = 3) .RMCN <|
    let wasOn := d.bit .RMCN 7
    let e := (d.wildIf (wasOn && v.getLsbD 7 && differs 0x7F v (d.rd .RMCN)) .remote).wr .RMCN v
    if !v.getLsbD 7 then .next { (e.rmClear.wr .RMDR 0).tame .remote with remote := Remote.reset }
    else .next (if wasOn then e else e.rmStart)

/-- Write a compare register or RMER; with RMEN = 0 only (R814, R815). -/
def Devices.writeRmWidth (d : Devices) (r : Sfr) (v : Byte) : Res Devices :=
  .next ((d.wildIf (d.bit .RMCN 7 && v != d.rd r) .remote).wr r v)

/-- Write INTC: each 1 clears the bit of INTS (R817). -/
def Devices.writeIntc (d : Devices) (v : Byte) : Res Devices := .next (d.wr .INTS (d.rd .INTS &&& ~~~v &&& 0x0F))

/-- Read RMSR (R812): after INTREND it clears RMSR and RMSCR and arms the receiver again; during reception the value is
free. -/
def Devices.readRmsr (d : Devices) : Byte × Devices :=
  if !d.bit .RMCN 7 then (d.rd .RMSR, d)
  else if d.remote.phase = .ended then (d.rd .RMSR, d.rmClear.rmGo .guideWait)
  else d.drawByte

/-- Read RMSCR (R813): guaranteed after INTREND only. -/
def Devices.readRmscr (d : Devices) : Byte × Devices :=
  if d.bit .RMCN 7 && d.remote.phase != .ended then d.drawByte else (d.rd .RMSCR, d)

end Sys2Proof.Machine
end

