-- ==== Sys2Proof/Machine/Rtc.lean ====
section
/-! DEFINITION. The real-time counter (R600 to R614): BCD counting, error correction, the constant-period, alarm and
interval interrupts, and the writes of its registers. -/

namespace Sys2Proof.Machine

/-! ### BCD -/

/-- The next two-digit BCD number. -/
def bcdNext (b : Byte) : Byte := if field b 0 4 = 9 then (b &&& 0xF0) + 0x10 else b + 1

/-- The number that two BCD digits write. -/
def bcdValue (b : Byte) : Nat := 10 * field b 4 4 + field b 0 4

/-- Both digits are decimal and the number lies in a range. -/
def bcdIn (b : Byte) (low high : Nat) : Bool :=
  field b 0 4 ≤ 9 && field b 4 4 ≤ 9 && low ≤ bcdValue b && bcdValue b ≤ high

/-- HOUR of the 24-hour system as HOUR of the 12-hour system (R607, Table 9-2). -/
def hourTo12 (h : Byte) : Byte :=
  if bcdIn h 0 23 then
    if h = 0x00 then 0x12 else if bcdValue h < 12 then h else if h = 0x12 then 0x32
    else let n := bcdValue h + 8
      BitVec.ofNat 8 (16 * (n / 10) + n % 10)
  else h

/-- HOUR of the 12-hour system as HOUR of the 24-hour system: the inverse of Table 9-2 (R607). -/
def hourTo24 (h : Byte) : Byte :=
  if h = 0x12 then 0x00 else if bcdIn h 1 11 then h else if h = 0x32 then 0x12
  else if bcdIn h 21 31 then let n := bcdValue h - 8
    BitVec.ofNat 8 (16 * (n / 10) + n % 10)
  else h

/-- The next hour and whether the day is over (R607). -/
def hourNext (h24 : Bool) (h : Byte) : Byte × Bool :=
  if h24 then if h = 0x23 then (0x00, true) else (bcdNext h, false)
  else if h = 0x12 then (0x01, false)
  else if h = 0x11 then (0x32, false)
  else if h = 0x32 then (0x21, false)
  else if h = 0x31 then (0x12, true)
  else (bcdNext h, false)

/-- The last day of a month (R608). -/
def lastDay (month year : Byte) : Byte :=
  match bcdValue month with
  | 2 => if bcdValue year % 4 = 0 then 0x29 else 0x28
  | 4 | 6 | 9 | 11 => 0x30
  | _ => 0x31

/-! ### Values on their way to the counters (R606) -/

/-- A value written to a count register waits to reach the counter. -/
def Devices.rtcPending (d : Devices) (r : Sfr) : Bool := d.rtc.buffer.any fun w => w.reg == r

/-- The written values reach their counters: at the second fRTC clock after the write, or at the first (R606; log entry
85). -/
def Devices.rtcArrive (d : Devices) : Devices :=
  d.rtc.buffer.foldl (fun e w =>
    let (now, e) := e.drawBit
    if now || w.left ≤ 1 then e.wr w.reg w.value
    else { e with rtc := { e.rtc with buffer := { w with left := 1 } :: e.rtc.buffer } })
    { d with rtc := { d.rtc with buffer := [] } }

/-- A value is written to a count register: it goes to the buffer, in the place of one still there (R606). -/
def Devices.rtcPut (d : Devices) (r : Sfr) (v : Byte) : Devices :=
  { d with rtc := { d.rtc with buffer := ⟨r, v, 2⟩ :: d.rtc.buffer.filter fun w => w.reg != r } }

/-- A count register as a program reads it: free while the counter runs without the wait state, where the value is in
transition (R603, R605), and the old or the written value while a written one waits (R606). -/
def Devices.readCounter (d : Devices) (r : Sfr) : Byte × Devices :=
  if d.bit .RTCC0 7 && !d.bit .RTCC1 1 then d.drawByte
  else
    match d.rtc.buffer.find? fun w => w.reg == r with
    | some w => let (b, e) := d.drawBit; (if b then w.value else e.rd r, e)
    | none => (d.rd r, d)

/-! ### Counting

An overflow from the lower counter is ignored by a counter to which a written value is on its way (R606). An ignored overflow counts
nothing above it and raises no constant-period interrupt of its own: DESIGN CHOICE, unsafe (R602, R606; log entry 177). -/

/-- The constant-period interrupt INTRTC with its status flag RIFG (R602, R603). -/
def Devices.rtcPeriod (d : Devices) (c : Bool) : Devices := if c then (d.putBit .RTCC1 3 true).raise .rtc else d

/-- The year after December (R608). -/
def Devices.rtcYearUp (d : Devices) : Devices :=
  if d.rtcPending .YEAR then d else d.wr .YEAR (if d.rd .YEAR = 0x99 then 0x00 else bcdNext (d.rd .YEAR))

/-- Month and year after the last day (R608). -/
def Devices.rtcMonthUp (d : Devices) : Devices :=
  if d.rtcPending .MONTH then d
  else if d.rd .MONTH = 0x12 then (d.wr .MONTH 0x01).rtcYearUp
  else d.wr .MONTH (bcdNext (d.rd .MONTH))

/-- Day, day of the week, month and year after midnight (R608). A DAY above the last day of its month, whose next value the rule does
not state, counts on as BCD: DESIGN CHOICE, unsafe (log entry 114). -/
def Devices.rtcDayUp (d : Devices) : Devices :=
  let e := if d.rtcPending .WEEK then d else d.wr .WEEK (if d.rd .WEEK = 0x06 then 0x00 else d.rd .WEEK + 1)
  if e.rtcPending .DAY then e
  else if e.rd .DAY = lastDay (e.rd .MONTH) (e.rd .YEAR) then
    ((e.wr .DAY 0x01).rtcMonthUp).rtcPeriod (6 ≤ e.fieldOf .RTCC0 0 3)
  else e.wr .DAY (bcdNext (e.rd .DAY))

/-- Hour and above after minute 59 (R607). -/
def Devices.rtcHourUp (d : Devices) : Devices :=
  if d.rtcPending .HOUR then d
  else
    let (h, day) := hourNext (d.bit .RTCC0 3) (d.rd .HOUR)
    let e := d.wr .HOUR h
    if day then (e.rtcDayUp).rtcPeriod (e.fieldOf .RTCC0 0 3 = 5) else e

/-- Minute and above after second 59 (R606). -/
def Devices.rtcMinuteUp (d : Devices) : Devices :=
  if d.rtcPending .MIN then d
  else if d.rd .MIN = 0x59 then ((d.wr .MIN 0x00).rtcHourUp).rtcPeriod (d.fieldOf .RTCC0 0 3 = 4)
  else d.wr .MIN (bcdNext (d.rd .MIN))

/-- The alarm registers match the counters (R610). -/
def Devices.alarmMatches (d : Devices) : Bool :=
  d.bit .RTCC1 7 && d.bit .ALARMWW (d.rd .WEEK).toNat && d.rd .HOUR == d.rd .ALARMWH && d.rd .MIN == d.rd .ALARMWM

/-- The alarm is compared at the open parameter `rtc_alarm_second` (R610, D24). -/
def Devices.rtcAlarm (d : Devices) : Devices :=
  if d.alarmMatches && d.rd .SEC == Config.rtcAlarmSecond then { d with rtc := { d.rtc with alarmWait := true } } else d

/-- The second count-up (R606) with the constant-period interrupts of half a second to one minute (R602). -/
def Devices.rtcSecondUp (d : Devices) : Devices :=
  if d.rtcPending .SEC then d
  else
    let ct := d.fieldOf .RTCC0 0 3
    let e :=
      if d.rd .SEC = 0x59 then ((d.wr .SEC 0x00).rtcMinuteUp).rtcPeriod (ct = 3)
      else d.wr .SEC (bcdNext (d.rd .SEC))
    (e.rtcPeriod (ct = 1 || ct = 2)).rtcAlarm

/-- The value at which RSUBC overflows (R609): 7FFFH, changed by SUBCUD in the corrected seconds. -/
def Devices.rtcLimit (d : Devices) : Nat :=
  let u := d.rd .SUBCUD
  let s := d.rd .SEC
  let corrected := s = 0x00 || (!u.getLsbD 7 && (s = 0x20 || s = 0x40))
  if corrected && field u 1 5 != 0 then
    if u.getLsbD 6 then 0x7FFF - 2 * (63 - field u 0 6 + 1) else 0x7FFF + 2 * (field u 0 6 - 1)
  else 0x7FFF

/-- RSUBC counts one fRTC clock (R605); its overflow counts the second up, or is held while RWAIT = 1. Of several overflows in one
such time, which the rule forbids, one count-up is held: DESIGN CHOICE, unsafe (R603; log entry 113). The half-second INTRTC of CT =
001 comes as RSUBC goes from 3FFFH to 4000H, in a second that SUBCUD lengthens or shortens too: DESIGN CHOICE, unsafe (R602; log entry
135). -/
def Devices.rtcSubCount (d : Devices) : Devices :=
  let c := d.rdWord .RSUBC
  if d.rtcLimit ≤ c.toNat then
    let e := d.wrWord .RSUBC 0
    if e.bit .RTCC1 0 then { e with rtc := { e.rtc with carryHeld := true } } else e.rtcSecondUp
  else (d.wrWord .RSUBC (c + 1)).rtcPeriod (d.fieldOf .RTCC0 0 3 = 1 && c == 0x3FFF)

/-- The interval interrupt INTRTCI (R604). -/
def Devices.rtcInterval (d : Devices) : Devices :=
  let n := d.rtc.interval + 1
  let period := 2 ^ (6 + min (d.fieldOf .RTCC2 0 3) 6)
  { d with rtc := { d.rtc with interval := n } }.raiseIf (d.bit .RTCC2 7 && n.toNat % period == 0) .rtci

/-- RWST follows RWAIT within one fRTC clock; a held second count-up is done after RWAIT = 0 (R603). -/
def Devices.rtcWait (d : Devices) : Devices :=
  let e := d.putBit .RTCC1 1 (d.bit .RTCC1 0)
  if e.rtc.carryHeld && !e.bit .RTCC1 0 then { e with rtc := { e.rtc with carryHeld := false } }.rtcSecondUp else e

/-- WAFG, and INTRTC where WALIE allows, one fRTC clock after the match, also where WALE was cleared since: DESIGN CHOICE, unsafe
(R603, R610; log entry 112). -/
def Devices.rtcAlarmFlag (d : Devices) : Devices :=
  if d.rtc.alarmWait then
    let e := { d with rtc := { d.rtc with alarmWait := false } }
    (e.putBit .RTCC1 4 true).raiseIf (e.bit .RTCC1 6) .rtc
  else d

/-- The dividers of the output RTCDIV: the count of fRTC clocks, and the clocks for which a stopped output may go on
(R604). -/
def Devices.rtcDividers (d : Devices) : Devices :=
  let n := if d.bit .RTCC0 7 then d.rtc.divider + 1 else d.rtc.divider
  { d with rtc := { d.rtc with divider := n, tail := d.rtc.tail - 1 } }

/-- One fRTC clock (R602): with RTCE = 0 only the wait state, the written values and the end of an output move on: DESIGN CHOICE, unsafe
(R603, R606; log entry 176). A counter whose
behaviour is free follows none of this (U11). -/
def Devices.rtcClock (d : Devices) : Devices :=
  if d.isWild .rtc then d
  else
    let e := if d.bit .RTCC0 7 then (((d.rtcAlarmFlag).rtcWait).rtcInterval).rtcSubCount else d.rtcWait
    e.rtcDividers.rtcArrive

/-! ### Writes -/

/-- Write RTCCL (R601). While RTCE = 1, against the order of R611 and R614, the write switches fRTC at once and the counter counts on:
DESIGN CHOICE, unsafe (log entry 124). -/
def Devices.writeRtccl (d : Devices) (v : Byte) : Res Devices :=
  refuseIf (field v 0 2 = 3) .RTCCL (.next (d.wr .RTCCL (v &&& 0x03)))

/-- HOUR values of the system that AMPM selects (R607). -/
def hourOk (h24 : Bool) (v : Byte) : Bool :=
  if h24 then bcdIn v 0 23 else bcdIn v 1 12 || bcdIn v 21 32

/-- A value is in the range of a count register (R606 to R608). -/
def Devices.counterOk (d : Devices) (r : Sfr) (v : Byte) : Bool :=
  match r with
  | .SEC | .MIN => bcdIn v 0 59
  | .HOUR => hourOk (d.bit .RTCC0 3) v
  | .WEEK => bcdIn v 0 6
  | .DAY => bcdIn v 1 31
  | .MONTH => bcdIn v 1 12
  | _ => bcdIn v 0 99

/-- What a count register holds or is about to hold is in its range. -/
def Devices.counterReady (d : Devices) (r : Sfr) : Bool :=
  match d.rtc.buffer.find? fun w => w.reg == r with
  | some w => d.counterOk r w.value
  | none => d.counterOk r (d.rd r)

/-- The count registers, seconds first. -/
def countRegisters : List Sfr := [.SEC, .MIN, .HOUR, .WEEK, .DAY, .MONTH, .YEAR]

/-- A change of AMPM converts HOUR and ALARMWH (R602, R607, R610), and with HOUR a value that still waits in the write buffer of HOUR:
DESIGN CHOICE, unsafe (R607; log entry 152). -/
def Devices.rtcConvert (d : Devices) (h24 : Bool) : Devices :=
  let f := if h24 then hourTo24 else hourTo12
  let e := (d.wr .HOUR (f (d.rd .HOUR))).wr .ALARMWH (f (d.rd .ALARMWH))
  { e with rtc := { e.rtc with
      buffer := e.rtc.buffer.map fun w => if w.reg = .HOUR then { w with value := f w.value } else w } }

/-- Write RTCC0 (R602, R607): AMPM changes after RWAIT = 1 only, else the counter's behaviour is free; so it is when the
counter starts with a value out of range (R606). Stopping the counter ends free behaviour. It drops a count-up that RWAIT = 1 holds:
DESIGN CHOICE, unsafe (R603; log entry 166). RSUBC and the dividers keep their counts over a stop: DESIGN CHOICE, unsafe (log entry
176). A rewrite of
CT2 to CT0 sets neither RIFG nor RTCIF by itself: DESIGN CHOICE, unsafe (R602; log entry 111). An alarm match that still waits when RTCE
is cleared is kept, and sets WAFG and INTRTC at the first fRTC clock after RTCE = 1: DESIGN CHOICE, unsafe (R603; log entry 136). AMPM
or CT2 to CT0 set by the write that sets RTCE, against the order of R611, are in effect from the start of the counter: DESIGN CHOICE,
unsafe (log entry 147). -/
def Devices.writeRtcc0 (d : Devices) (v : Byte) : Res Devices :=
  refuseIf (v.getLsbD 4 && d.bit .RTCC2 6) .RTCC0 <|
    let on := v.getLsbD 7
    let e := if d.bit .RTCC0 3 = v.getLsbD 3 then d
      else (d.wildIf (d.bit .RTCC0 7 && on && !d.bit .RTCC1 0) .rtc).rtcConvert (v.getLsbD 3)
    let e := e.wr .RTCC0 (v &&& 0xBF)
    if !on then .next { e.tame .rtc with rtc := { e.rtc with carryHeld := false } }
    else .next (e.wildIf (!d.bit .RTCC0 7 && !countRegisters.all e.counterReady) .rtc)

/-- Write RTCC1 (R603): WAFG and RIFG can only be cleared, RWST is read only. A change of WALIE while the alarm of a running
counter stays enabled leaves the counter's behaviour free (U11). A write of WALE sets neither WAFG nor RTCIF by itself, and
WAFG keeps its value while WALE = 0: DESIGN CHOICE, unsafe (log entries 112 and 125). WALE and WALIE changed by one write,
against the order of R603 and R613, take effect as written: DESIGN CHOICE, unsafe (log entry 146). -/
def Devices.writeRtcc1 (d : Devices) (v : Byte) : Res Devices :=
  let old := d.rd .RTCC1
  let kept := old &&& v &&& 0x18
  let e := d.wildIf (d.bit .RTCC0 7 && old.getLsbD 7 && v.getLsbD 7 && differs 0x40 old v) .rtc
  .next (e.wr .RTCC1 ((v &&& 0xC1) ||| kept ||| (old &&& 0x02)))

/-- Write RTCC1 by a 1-bit manipulation: the instruction may clear RIFG and WAFG (R603). -/
def Devices.bitRtcc1 (d : Devices) (v : Byte) : Res Devices :=
  let (b, e) := d.drawBit
  let (c, e) := e.drawBit
  e.writeRtcc1 (setBit (setBit v 3 (v.getLsbD 3 && b)) 4 (v.getLsbD 4 && c))

/-- Write RTCC2 (R604): a change of the interval while it runs leaves the counter's behaviour free (U11); an output RTCDIV that is
stopped goes on for up to two fRTC clocks, a free number of them. ICT2 to ICT0 changed by the write that sets RINTE are in effect from that
write on: DESIGN CHOICE, unsafe (log entry 149). -/
def Devices.writeRtcc2 (d : Devices) (v : Byte) : Res Devices :=
  refuseIf (v.getLsbD 6 && d.bit .RTCC0 4) .RTCC2 <|
    let e := d.wildIf (d.bit .RTCC0 7 && d.bit .RTCC2 7 && v.getLsbD 7 && differs 0x07 v (d.rd .RTCC2)) .rtc
    let e := if d.bit .RTCC0 7 && d.bit .RTCC2 6 && !v.getLsbD 6 then
        let (b, e) := e.drawBit
        let (c, e) := e.drawBit
        { e with rtc := { e.rtc with tail := if b then 2 else if c then 1 else 0, tailBit := d.rtcdivBit } }
      else e
    .next (e.wr .RTCC2 (v &&& 0xE7))

/-- Write a count register (R606 to R608): the value goes to the buffer; one out of range leaves the behaviour of a running
counter free. -/
def Devices.writeCount (d : Devices) (r : Sfr) (mask v : Byte) : Res Devices :=
  .next ((d.wildIf (d.bit .RTCC0 7 && !d.counterOk r v) .rtc).rtcPut r (v &&& mask))

/-- Write SEC (R603, R605, R606): RSUBC clears and a held count-up is dropped. -/
def Devices.writeSec (d : Devices) (v : Byte) : Res Devices :=
  Devices.writeCount { d.wrWord .RSUBC 0 with rtc := { d.rtc with carryHeld := false } } .SEC 0x7F v

/-- Write an alarm register; with the alarm of a running counter enabled the counter's behaviour is free (R603, U11). -/
def Devices.writeAlarm (d : Devices) (r : Sfr) (mask : Byte) (v : Byte) : Res Devices :=
  .next ((d.wildIf (d.bit .RTCC0 7 && d.bit .RTCC1 7) .rtc).wr r (v &&& mask))

/-- Write SUBCUD, which is prohibited in the corrected seconds while the counter runs (R609): those of the DEV that is being
written. The write sets neither RIFG nor RTCIF by itself. Both: DESIGN CHOICE, unsafe (log entries 127 and 128). -/
def Devices.writeSubcud (d : Devices) (v : Byte) : Res Devices :=
  let s := d.rd .SEC
  let busy := d.bit .RTCC0 7 && (s == 0x00 || (!v.getLsbD 7 && (s == 0x20 || s == 0x40)))
  .next ((d.wildIf busy .rtc).wr .SUBCUD v)

end Sys2Proof.Machine
end

