-- ==== Sys2Proof/Machine/Pins.lean ====
section
/-! DEFINITION. What a change of pin levels does: edges at the interrupt, key, timer and serial clock inputs; and what one
peripheral's output does to another that counts it (R508). -/

namespace Sys2Proof.Machine

/-- The timer 50 output as a clock: each of its rising edges is one clock of timer H0, UART0 and UART6 where they select it
(R582, R695, R717). A rise that a register write makes (LVS50, or a stop) is none: DESIGN CHOICE, unsafe (log entry 108). A TM50
without the settings that these rules require clocks them as its edges come: DESIGN CHOICE, unsafe (log entry 161). -/
def Devices.tm50Follow (d before : Devices) : Devices :=
  if !before.tm50.out && d.tm50.out then
    let e := if d.fieldOf .TMHMD0 4 3 = 5 then d.tmhClock .n0 else d
    let e := if e.fieldOf .BRGC0 6 2 = 0 then e.uart0Clock else e
    if e.fieldOf .CKSR6 0 4 = 11 then e.uart6Clock else e
  else d

/-- The output of timer H1 that timer 51 counts: the carrier clock in carrier generator mode (R588). It does not
pass TOEN1, so timer 51 counts also while the output is disabled: DESIGN CHOICE, unsafe (R562, R588; log entry 183). -/
def Devices.tmh1Output (d : Devices) : Bool := if d.carrierMode then d.tmh1.carrier else d.tmh1.out

/-- The timer H1 output as the count clock of timer 51 (R562), which counts TI51 only in STOP mode (R848). A rise that a register
write makes (a stop, or TOLEV1) is none: DESIGN CHOICE, unsafe (log entry 108). -/
def Devices.tmh1Follow (d before : Devices) : Devices :=
  if d.fieldOf .TCL51 0 3 = 7 && !before.tmh1Output && d.tmh1Output && d.mode != .stop then d.tm5Tick .n1 else d

/-- Edges at the event inputs TI50, TI51, TI52 and the clock inputs SCK10, SCKA0 (R559, R744, R759). -/
def Devices.clockEvents (d before : Devices) : Devices :=
  let e := (d.ti5Event before .n0).tm50Follow d
  (((e.ti5Event before .n1).ti5Event before .n2).csi10Event before).csiaEvent before

/-- Pin levels changed: every input that looks at pins sees its edges (R410, R471, R830). -/
def Devices.pinsMoved (d before : Devices) : Devices :=
  (((d.intpEvents before).keyEvents before).clockEvents before).tm00StopEvent before

/-- A move is over: a new moment begins, in which the levels that nothing states may be others (R466), and the inputs see the
edges since `before`; then those that the counts and shifts at these edges make at output pins. While a reset signal is active
nothing is seen. -/
def Devices.momentPasses (d before : Devices) : Devices :=
  let e := { d with moment := d.moment + 1 }
  if e.mode = .held then e else (e.pinsMoved before).pinsMoved e

/-- A request that may or may not be made. -/
def Devices.mayRaise (d : Devices) (c : Bool) (s : Source) : Devices :=
  if c then let (b, e) := d.drawBit; e.raiseIf b s else d

/-- A register write of the CPU changed pin levels: an edge at an interrupt or key input may be detected (R410, R775). -/
def Devices.pinsWritten (d before : Devices) : Devices :=
  let e := (List.range 6).foldl (fun e n => e.mayRaise (d.intpEdge before n) (intpSource n)) d
  (e.mayRaise (d.keyEdge before) .kr).clockEvents before

end Sys2Proof.Machine
end

