-- ==== Sys2Proof/Machine/SfrAccess.lean ====
section
/-! DEFINITION. A program's reads and writes of the special function registers (R40 to R48): what each register reads as,
what a write changes, and the accesses the register list does not allow (U3, U4). -/

namespace Sys2Proof.Machine

/-- The unit of a CPU access to one byte: a 1-bit memory manipulation instruction, or an 8-bit access (R40). -/
inductive AccessUnit where
  | bit | byte
  deriving DecidableEq, Repr

/-- The register list allows the unit (R41). -/
def Units.allow (u : Units) (a : AccessUnit) : Bool :=
  match u, a with
  | .b18, _ => true
  | .b8, .byte => true
  | .b18w, _ => true
  | _, _ => false

/-- An access records a fault at an address: one where nothing answers, a write to a read-only register, or a read of the
write-only TXS0 (U1, U3, U4; log entries 27 to 29 and 89). -/
def Devices.note (d : Devices) (a : Nat) : Devices := { d with noted := a :: d.noted }

/-! ### Reads -/

/-- Read a status register of a UART: it waits for fPRS and clears (R694, R715, R951). -/
def Devices.readAsis (d : Devices) (r : Sfr) : Res (Byte × Devices) := d.waitPrs (.next (d.rd r, d.wr r 0))

/-- Read the receive buffer of UART0. -/
def Devices.readRxb0 (d : Devices) : Byte × Devices :=
  (d.rd .RXB0, { d with rx0 := { d.rx0 with unread := false } })

/-- Read the receive buffer of UART6, which clears the error flags (R120). -/
def Devices.readRxb6 (d : Devices) : Byte × Devices :=
  (d.rd .RXB6, { d.wr .ASIS6 0 with rx6 := { d.rx6 with unread := false } })

/-- Read TXS0, which is write only: any value, and a fault is recorded (U4). -/
def Devices.readTxs0 (d : Devices) : Byte × Devices := (d.note Sfr.TXS0.addr).drawByte

/-- A read whose value is free while a condition holds (U4, U11). -/
def Devices.readUnless (d : Devices) (busy : Bool) (r : Sfr) : Byte × Devices :=
  if busy then d.drawByte else (d.rd r, d)

/-- What a byte of a register reads as, with the effects of the read. -/
def Devices.readReg (d : Devices) (r : Sfr) : Res (Byte × Devices) :=
  match r with
  | .P1 => .next (d.portRead 1, d)
  | .P2 => .next (d.portRead 2, d.adcDisturb true)
  | .P3 => .next (d.portRead 3, d)
  | .P4 => .next (d.portRead 4, d)
  | .P8 => .next (d.portRead 8, d)
  | .P9 => .next (d.portRead 9, d)
  | .P10 => .next (d.portRead 10, d)
  | .P11 => .next (d.portRead 11, d)
  | .P12 => .next (d.portRead 12, d)
  | .P13 => .next (d.portRead 13, d)
  | .P14 => .next (d.portRead 14, d)
  | .P15 => .next (d.portRead 15, d)
  | .RXB6 => .next d.readRxb6
  | .RXB0 => .next d.readRxb0
  | .ASIS0 => d.readAsis .ASIS0
  | .ASIS6 => d.readAsis .ASIS6
  | .TXS0 => .next d.readTxs0
  | .TM50 => .next (d.readTm5 .n0)
  | .TM51 => .next (d.readTm5 .n1)
  | .TM52 => .next (d.readTm5 .n2)
  | .ADCRH => d.waitPrs (.next (d.rd .ADCRH, d))
  | .ADDCRH => d.readAddcr (d.rd .ADDCRH) d.drawByte
  | .SIO10 => .next d.readSio10
  | .SOTB10 => .next (d.readUnless d.csot10 .SOTB10)
  | .SIOA0 => .next (d.readSioa0, d)
  | .ADTC0 => .next (d.readUnless d.tsf0 .ADTC0)
  | .SEC => .next (d.readCounter .SEC)
  | .MIN => .next (d.readCounter .MIN)
  | .HOUR => .next (d.readCounter .HOUR)
  | .WEEK => .next (d.readCounter .WEEK)
  | .DAY => .next (d.readCounter .DAY)
  | .MONTH => .next (d.readCounter .MONTH)
  | .YEAR => .next (d.readCounter .YEAR)
  | .RMSR => .next d.readRmsr
  | .RMSCR => .next d.readRmscr
  | .INTC => .next (0, d)
  | .WDTE => .next (d.readWdte, d)
  | .PCC => .next (d.readPcc, d)
  | .RCM => .next (d.readRcm, d)
  | .MCM => .next (d.readMcm, d)
  | .OSTC => .next (d.ostc, d)
  | .LVIM => .next (d.readLvim, d)
  | .RESF => .next (d.rd .RESF, d.wr .RESF 0)
  | _ => .next (d.rd r, d)

/-! ### Writes -/

/-- Write a port register: the output latches (R452). Port 2 disturbs the 10-bit converter (R659). -/
def Devices.writePort (d : Devices) (m : Nat) (r : Sfr) (v : Byte) : Res Devices :=
  .next ((d.wr r (v &&& latchMask d.series m)).adcDisturb (m == 2))

/-- Write a port mode register: bits without a pin must be 1 (R451). -/
def Devices.writeMode (d : Devices) (m : Nat) (r : Sfr) (v : Byte) : Res Devices :=
  refuseIf ((v ||| portMask d.series m) != 0xFF) r <| Devices.checkKeyScan r (.next (d.wr r v))

/-- Write PM2: the pins of the converters (R460, R676). -/
def Devices.writePm2 (d : Devices) (v : Byte) : Res Devices :=
  Devices.checkPort2 .PM2 (andThen (d.writeMode 2 .PM2 v) fun e => .next (e.dsadMoved d).adcPinMoved)

/-- Write a pull-up resistor option register: not for a pin in use as key scan input (R453, R777). -/
def Devices.writePull (d : Devices) (m : Nat) (r : Sfr) (v : Byte) : Res Devices :=
  Devices.checkKeyScan r (.next (d.wr r (v &&& portMask d.series m)))

/-- Write PF1: the pins that are transmit outputs (R456, R774). -/
def Devices.writePf1 (d : Devices) (v : Byte) : Res Devices :=
  Devices.checkKeyScan .PF1 (.next (d.wr .PF1 (v &&& if d.series.isLf then 0x48 else 0x08)))

/-- Write TMC50; a stop of timer 50 may take the clock of a UART (R697). -/
def Devices.writeTmc50 (d : Devices) (v : Byte) : Res Devices :=
  andThen (d.writeTmc5 .n0 v) fun e => .next (e.uartsStopped d)

/-- Write a register under a mask; the other bits are 0. -/
def Devices.writeMasked (d : Devices) (r : Sfr) (mask v : Byte) : Res Devices := .next (d.wr r (v &&& mask))

/-- The bits of PFALL (R458). -/
def pfallMask (s : Series) : Byte := if s.isLf then 0x7F else if s.isLc then 0x6C else 0x6D

/-- The mask of a request, mask or priority flag register. -/
def Devices.flagBits (d : Devices) (r : Sfr) : Byte :=
  match r with
  | .IF0L | .MK0L | .PR0L => flagMask d.series 0
  | .IF0H | .MK0H | .PR0H => flagMask d.series 1
  | .IF1L | .MK1L | .PR1L => flagMask d.series 2
  | _ => flagMask d.series 3

/-- Write a request flag register: bits that do not exist must be 0 (R404). -/
def Devices.writeIf (d : Devices) (r : Sfr) (v : Byte) : Res Devices :=
  refuseIf (outside (d.flagBits r) v) r (.next (d.wr r v))

/-- Write a mask or priority flag register: bits that do not exist must be 1 (R405, R406). -/
def Devices.writeMk (d : Devices) (r : Sfr) (v : Byte) : Res Devices :=
  refuseIf ((v ||| d.flagBits r) != 0xFF) r (.next (d.wr r v))

/-- Write a byte of a readable and writable register. -/
def Devices.writeReg (d : Devices) (r : Sfr) (v : Byte) : Res Devices :=
  match r with
  | .P1 => d.writePort 1 r v
  | .P2 => d.writePort 2 r v
  | .P3 => d.writePort 3 r v
  | .P4 => d.writePort 4 r v
  | .P8 => d.writePort 8 r v
  | .P9 => d.writePort 9 r v
  | .P10 => d.writePort 10 r v
  | .P11 => d.writePort 11 r v
  | .P12 => d.writePort 12 r v
  | .P13 => d.writePort 13 r v
  | .P14 => d.writePort 14 r v
  | .P15 => d.writePort 15 r v
  | .PM1 => d.writeMode 1 r v
  | .PM2 => d.writePm2 v
  | .PM3 => d.writeMode 3 r v
  | .PM4 => d.writeMode 4 r v
  | .PM8 => d.writeMode 8 r v
  | .PM9 => d.writeMode 9 r v
  | .PM10 => d.writeMode 10 r v
  | .PM11 => d.writeMode 11 r v
  | .PM12 => d.writeMode 12 r v
  | .PM13 => d.writeMode 13 r v
  | .PM14 => d.writeMode 14 r v
  | .PM15 => d.writeMode 15 r v
  | .PU1 => d.writePull 1 r v
  | .PU3 => d.writePull 3 r v
  | .PU4 => d.writePull 4 r v
  | .PU8 => d.writePull 8 r v
  | .PU9 => d.writePull 9 r v
  | .PU10 => d.writePull 10 r v
  | .PU11 => d.writePull 11 r v
  | .PU12 => d.writePull 12 r v
  | .PU13 => d.writePull 13 r v
  | .PU14 => d.writePull 14 r v
  | .PU15 => d.writePull 15 r v
  | .PF1 => d.writePf1 v
  | .PF2 => d.writePf2 v
  | .PFALL => d.writeMasked r (pfallMask d.series) v
  | .ISC => d.writeIsc v
  | .EGP => d.writeMasked r (egMask d.series) v
  | .EGN => d.writeMasked r (egMask d.series) v
  | .IF0L => d.writeIf r v
  | .IF0H => d.writeIf r v
  | .IF1L => d.writeIf r v
  | .IF1H => d.writeIf r v
  | .MK0L => d.writeMk r v
  | .MK0H => d.writeMk r v
  | .MK1L => d.writeMk r v
  | .MK1H => d.writeMk r v
  | .PR0L => d.writeMk r v
  | .PR0H => d.writeMk r v
  | .PR1L => d.writeMk r v
  | .PR1H => d.writeMk r v
  | .OSCCTL => d.writeOscctl v
  | .PCC => d.writePcc v
  | .RCM => d.writeRcm v
  | .MCM => d.writeMcm v
  | .MOC => d.writeMoc v
  | .OSTS => d.writeOsts v
  | .HIOTRM => d.writeMasked r 0x1F v
  | .CKS => d.writeCks v
  | .IMS => refuseIf (!imsAllowed v) r (.next (d.wr r v))
  | .IXS => refuseIf (!ixsAllowed (v &&& 0x0F)) r (.next (d.wr r (v &&& 0x0F)))
  | .TMC00 => d.writeTmc00 v
  | .CRC00 => d.writeCrc00 v
  | .PRM00 => d.writePrm00 v
  | .TOC00 => d.writeToc00 v
  | .CR50 => d.writeCr5 .n0 v
  | .CR51 => d.writeCr5 .n1 v
  | .CR52 => d.writeCr5 .n2 v
  | .TCL50 => d.writeTcl5 .n0 v
  | .TCL51 => d.writeTcl5 .n1 v
  | .TCL52 => d.writeTcl5 .n2 v
  | .TMC50 => d.writeTmc50 v
  | .TMC51 => d.writeTmc5 .n1 v
  | .TMC52 => d.writeTmc5 .n2 v
  | .TMHMD0 => d.writeTmhmd .n0 v
  | .TMHMD1 => d.writeTmhmd .n1 v
  | .TMHMD2 => d.writeTmhmd .n2 v
  | .CMP00 => d.writeCmp0 .n0 v
  | .CMP01 => d.writeCmp0 .n1 v
  | .CMP02 => d.writeCmp0 .n2 v
  | .CMP10 => d.writeCmp1 .n0 v
  | .CMP11 => d.writeCmp1 .n1 v
  | .CMP12 => d.writeCmp1 .n2 v
  | .TMCYC1 => d.writeTmcyc1 v
  | .RTCCL => d.writeRtccl v
  | .RTCC0 => d.writeRtcc0 v
  | .RTCC1 => d.writeRtcc1 v
  | .RTCC2 => d.writeRtcc2 v
  | .SEC => d.writeSec v
  | .MIN => d.writeCount r 0x7F v
  | .HOUR => d.writeCount r 0x3F v
  | .WEEK => d.writeCount r 0x07 v
  | .DAY => d.writeCount r 0x3F v
  | .MONTH => d.writeCount r 0x1F v
  | .YEAR => d.writeCount r 0xFF v
  | .SUBCUD => d.writeSubcud v
  | .ALARMWM => d.writeAlarm r 0x7F v
  | .ALARMWH => d.writeAlarm r 0x3F v
  | .ALARMWW => d.writeAlarm r 0x7F v
  | .WDTE => .next (d.writeWdte v)
  | .ADM => d.writeAdm v
  | .ADS => d.writeAds v
  | .ADPC0 => d.writeAdpc0 v
  | .ADDCTL0 => d.writeAddctl0 v
  | .ADDCTL1 => d.writeAddctl1 v
  | .DSTEN => d.writeDsten v
  | .DSDLY => d.writeDsdly v
  | .ASIM0 => d.writeAsim0 v
  | .BRGC0 => d.writeBrgc0 v
  | .TXS0 => d.writeTxs0 v
  | .ASIM6 => d.writeAsim6 v
  | .CKSR6 => d.writeCksr6 v
  | .BRGC6 => d.writeBrgc6 v
  | .ASICL6 => d.writeAsicl6 v
  | .TXB6 => d.writeTxb6 v
  | .CSIM10 => d.writeCsim10 v
  | .CSIC10 => d.writeCsic10 v
  | .SOTB10 => d.writeSotb10 v
  | .CSIMA0 => d.writeCsima0 v
  | .CSIS0 => d.writeCsis0 v
  | .CSIT0 => d.writeCsit0 v
  | .BRGCA0 => d.writeBrgca0 v
  | .ADTP0 => d.writeAdtp0 v
  | .ADTI0 => d.writeAdti0 v
  | .SIOA0 => d.writeSioa0 v
  | .LCDMD => d.writeLcdmd v
  | .LCDM => d.writeLcdm v
  | .LCDC0 => d.writeLcdc0 v
  | .KRM => d.writeKrm v
  | .MC0TX => d.writeMc0tx v
  | .MC0BIT => d.writeMasked r 0x07 v
  | .MC0CTL0 => d.writeMc0ctl0 v
  | .MC0CTL1 => d.writeMc0ctl1 v
  | .MC0CTL2 => d.writeMc0ctl2 v
  | .RMCN => d.writeRmcn v
  | .RMGPLS => d.writeRmWidth r v
  | .RMGPLL => d.writeRmWidth r v
  | .RMGPHS => d.writeRmWidth r v
  | .RMGPHL => d.writeRmWidth r v
  | .RMDLS => d.writeRmWidth r v
  | .RMDLL => d.writeRmWidth r v
  | .RMDH0S => d.writeRmWidth r v
  | .RMDH0L => d.writeRmWidth r v
  | .RMDH1S => d.writeRmWidth r v
  | .RMDH1L => d.writeRmWidth r v
  | .RMER => d.writeRmWidth r v
  | .INTC => d.writeIntc v
  | .LVIM => d.writeLvim v
  | .LVIS => d.writeLvis v
  | .RXB6 | .ADCR | .ADCRH | .TM00 | .CR000 | .CR010 | .TM50 | .SIO10 | .MC0STR | .TM52 | .ASIS6 | .ASIF6 | .RSUBC
  | .TM51 | .RXB0 | .ASIS0 | .ADDSTR | .ADDCR | .ADDCRH | .ADTC0 | .RMDR | .RMSCR | .OSTC | .RMSR | .RESF | .INTS =>
    .next d

/-- A write of the register may change levels at pins: of all but those of the interrupt controller, of the memory sizes and
of the watchdog timer. -/
def movesPins (r : Sfr) : Bool :=
  match r with
  | .IF0L | .IF0H | .IF1L | .IF1H | .MK0L | .MK0H | .MK1L | .MK1H | .PR0L | .PR0H | .PR1L | .PR1H | .IMS | .IXS | .WDTE =>
    false
  | _ => true

/-- Write a byte of a register in a unit: a write to a read-only register is ignored and records a fault (U4); a 1-bit
manipulation of RTCC1 has an effect of its own (R603); what a write changes at pins may be detected as an edge (R410). -/
def Devices.writeByte (d : Devices) (u : AccessUnit) (r : Sfr) (v : Byte) : Res Devices :=
  match r.info.access with
  | .ro => .next (d.note r.addr)
  | _ =>
    let x := if u == .bit && r == .RTCC1 then d.bitRtcc1 v else d.writeReg r v
    if movesPins r then andThen x fun e => .next (e.pinsWritten d) else x

/-! ### Accesses by address -/

/-- The register at an address of the register list, where this product has one (R41, R47). -/
def Devices.regAt (d : Devices) (a : Nat) : Option Sfr :=
  match Sfr.ofAddr a with
  | some r => if r.on d.chip.product then some r else none
  | none => none

/-- A 1-bit access to WDTE: a reset with WDTON = 1, no effect with WDTON = 0 (R624, R964). -/
def Devices.bitOnWdte (u : AccessUnit) (r : Sfr) : Bool := u == .bit && r == .WDTE

/-- Read one byte of a register in a unit (R41); where no register is, any value, and a fault is recorded (U3). A unit that the
list does not allow is refused (U4). -/
def Devices.sfrRead (d : Devices) (u : AccessUnit) (a : Nat) : Res (Byte × Devices) :=
  match d.regAt a with
  | none => .next (d.note a).drawByte
  | some r =>
    if Devices.bitOnWdte u r then .next (d.readWdte, d.wdtViolation)
    else if Units.allow r.info.units u then d.readReg r
    else .refused (.sfrWidth a)

/-- Write one byte of a register in a unit (R41, U3, U4). -/
def Devices.sfrWrite (d : Devices) (u : AccessUnit) (a : Nat) (v : Byte) : Res Devices :=
  match d.regAt a with
  | none => .next (d.note a)
  | some r =>
    if Devices.bitOnWdte u r then .next d.wdtViolation
    else if Units.allow r.info.units u then d.writeByte u r v
    else .refused (.sfrWidth a)

/-- Read a 16-bit register (R48, R120). -/
def Devices.readWordReg (d : Devices) (r : Sfr) : Res (Word × Devices) :=
  match r with
  | .ADCR => d.waitPrs (.next (d.rdWord .ADCR, d))
  | .ADDCR => d.readAddcr (d.rdWord .ADDCR) d.drawWord
  | .TM00 => .next d.readTm00
  | .CR000 => .next (d.readCapture d.tm00Capturing0 .CR000)
  | .CR010 => .next (d.readCapture d.tm00Capturing1 .CR010)
  | .RSUBC => .next (if d.bit .RTCC0 7 then d.drawWord else (d.rdWord .RSUBC, d))
  | _ => .next (d.rdWord r, d)

/-- Write a 16-bit register; the flag registers keep the rules of their two bytes (R48, R121), and a write to a read-only
register is ignored and records a fault (U4). -/
def Devices.writeWordReg (d : Devices) (r : Sfr) (v : Word) : Res Devices :=
  match r with
  | .CR000 => d.writeCr000 v
  | .CR010 => d.writeCr010 v
  | .IF0L => andThen (d.writeIf .IF0L (lo v)) fun e => e.writeIf .IF0H (hi v)
  | .IF1L => andThen (d.writeIf .IF1L (lo v)) fun e => e.writeIf .IF1H (hi v)
  | .MK0L => andThen (d.writeMk .MK0L (lo v)) fun e => e.writeMk .MK0H (hi v)
  | .MK1L => andThen (d.writeMk .MK1L (lo v)) fun e => e.writeMk .MK1H (hi v)
  | .PR0L => andThen (d.writeMk .PR0L (lo v)) fun e => e.writeMk .PR0H (hi v)
  | .PR1L => andThen (d.writeMk .PR1L (lo v)) fun e => e.writeMk .PR1H (hi v)
  | _ => .next (d.note r.addr)

/-- The 16-bit register at an address, where this product has one (R41, R48). -/
def Devices.pairAt (d : Devices) (a : Nat) : Option Sfr :=
  match Sfr.pairAt a with
  | some r => if r.on d.chip.product then some r else none
  | none => none

/-- A 16-bit access that names no 16-bit register: refused at a register without that unit (U4); what happens where no register
is at all is given (U3). -/
def Devices.noPair {α : Type} (d : Devices) (a : Nat) (unassigned : Res α) : Res α :=
  match d.regAt a with
  | none => unassigned
  | some _ => .refused (.sfrWidth a)

/-- Read a 16-bit register by address (R48); where no register is, any value, and a fault is recorded (U3). -/
def Devices.sfrReadWord (d : Devices) (a : Nat) : Res (Word × Devices) :=
  match d.pairAt a with
  | some r => d.readWordReg r
  | none => d.noPair a (.next (d.note a).drawWord)

/-- Write a 16-bit register by address (R48, U4); where no register is, a fault is recorded and nothing else happens (U3). -/
def Devices.sfrWriteWord (d : Devices) (a : Nat) (v : Word) : Res Devices :=
  match d.pairAt a with
  | some r => d.writeWordReg r v
  | none => d.noPair a (.next (d.note a))

end Sys2Proof.Machine
end

