-- ==== Sys2Proof/Machine/Tick.lean ====
section
/-! DEFINITION. The moves of the peripherals' own agents and of the environment (D16, D23): one clock of each source clock,
pins, voltages, the RESET pin; and the free behaviour of a peripheral that was rewritten against its rule (U11). -/

namespace Sys2Proof.Machine

/-! ### Free behaviour (U11) -/

/-- Give a register a free value under a mask. -/
def Devices.freeReg (d : Devices) (mask : Byte) (r : Sfr) : Devices :=
  let (b, e) := d.drawByte
  e.wr r (merge mask (e.rd r) b)

/-- Give a 16-bit register a free value. -/
def Devices.freeWordReg (d : Devices) (r : Sfr) : Devices := let (w, e) := d.drawWord; e.wrWord r w

/-- Raise a source or not, freely. -/
def Devices.freeRaise (d : Devices) (s : Source) : Devices := d.mayRaise true s

/-- Do something or not, freely. -/
def Devices.freely (d : Devices) (f : Devices → Devices) : Devices := let (b, e) := d.drawBit; if b then f e else e

/-- Free behaviour of timer 5n: a free level and count, and a match or none. -/
def Devices.freeTm5 (d : Devices) (i : Ch3) : Devices :=
  let (b, e) := d.drawBit
  (((e.putTm5 i { e.tm5 i with out := b }).freeReg 0xFF (tm5Counter i)).freely (·.tm5Hit i)).freeRaise (tm5Source i)

/-- CMP1n takes the value that waits for it, where one does (R581). -/
def Devices.tmhTake (d : Devices) (i : Ch3) : Devices :=
  let t := d.tmh i
  if t.cmp1Age = none then d else (d.putTmh i { t with cmp1Age := none }).wr (tmhCompare1 i) t.cmp1Next

/-- Free behaviour of timer Hn: free levels of its output and of the carrier, and a transfer to CMP1n or none. -/
def Devices.freeTmh (d : Devices) (i : Ch3) : Devices :=
  let (b, e) := d.drawBit
  let (c, e) := e.drawBit
  ((e.putTmh i { e.tmh i with out := b, carrier := c }).freely (·.tmhTake i)).freeRaise (tmhSource i)

/-- Free behaviour of timer H1: NRZ1 beside, INTTM51 where it goes through timer H1 (R585), and the clocks that its output is to
timer 51. -/
def Devices.freeTmh1 (d : Devices) : Devices :=
  let e := (d.freeTmh .n1).freeReg 0x01 .TMCYC1
  (if e.carrierMode then e.freeRaise .tm51 else e).tmh1Follow d

/-- Free behaviour of timer 00. -/
def Devices.freeTm00 (d : Devices) : Devices :=
  let (b, e) := d.drawBit
  let (c, e) := e.drawBit
  let e := { e with tm00 := { e.tm00 with out := b, ovfOpen := c } }
  let e := (e.freeWordReg .TM00).freeReg 0x01 .TMC00
  let e := if e.bit .CRC00 0 then e.freeWordReg .CR000 else e
  let e := if e.bit .CRC00 2 then e.freeWordReg .CR010 else e
  (e.freeRaise .tm000).freeRaise .tm010

/-- Free behaviour of the real-time counter: its counters and flags, the interval counter and the divider of RTCDIV; the values on
their way to the counters come to free values too. -/
def Devices.freeRtc (d : Devices) : Devices :=
  let e := [Sfr.SEC, .MIN, .HOUR, .WEEK, .DAY, .MONTH, .YEAR].foldl (fun e r => e.freeReg 0xFF r) (d.freeWordReg .RSUBC)
  let (n, e) := e.drawWord
  let (v, e) := e.drawWord
  let (b, e) := e.drawBit
  let e := { e with rtc := { e.rtc with interval := n, divider := v, alarmWait := b, buffer := [] } }
  ((e.freeReg 0x1A .RTCC1).freeRaise .rtc).freeRaise .rtci

/-- Timer H1 can count: on a running fPRS or fRL (R583, R848). -/
def Devices.tmh1Clocked (d : Devices) : Bool := if 5 ≤ d.fieldOf .TMHMD1 4 3 then d.rlRuns else d.prsRuns

/-- Timer 5n can count: on edges of its pin, on a running fPRS, and timer 51 on the output of timer H1, but not in STOP mode
(R562, R563, R848). -/
def Devices.tm5Clocked (d : Devices) (i : Ch3) : Bool :=
  let sel := d.fieldOf (tm5Select i) 0 3
  decide (sel < 2) || if i = .n1 && sel = 7 then d.tmh1Clocked && d.mode != .stop else d.prsRuns

/-- Timer 00 can count: on a running fPRS, which samples TI000 too but in STOP mode; on fSUB, but not in STOP mode; and on timer 52
(R496, R537, R848). -/
def Devices.tm00Clocked (d : Devices) : Bool :=
  match d.fieldOf .PRM00 0 3 with
  | 5 => d.subRuns && d.mode != .stop
  | 6 => d.mode == .stop || d.prsRuns
  | 7 => d.tm5On .n2 && d.tm5Clocked .n2
  | _ => d.prsRuns

/-- A peripheral whose behaviour is free operates: it is started, and its clock runs also in the present standby mode (R848). A
stopped one makes no request (R415). -/
def Devices.blockOn (d : Devices) (b : Block) : Bool :=
  match b with
  | .tm00 => d.tm00Mode != 0 && d.tm00Clocked
  | .tm50 => d.tm5On .n0 && d.tm5Clocked .n0
  | .tm51 => d.tm5On .n1 && d.tm5Clocked .n1
  | .tm52 => d.tm5On .n2 && d.tm5Clocked .n2
  | .tmh0 => d.tmhOn .n0 && if d.fieldOf .TMHMD0 4 3 = 5 then d.tm50Operates else d.prsRuns
  | .tmh1 => d.tmhOn .n1 && d.tmh1Clocked
  | .tmh2 => d.tmhOn .n2 && d.prsRuns
  | .rtc => d.bit .RTCC0 7 && if d.fieldOf .RTCCL 0 2 = 0 then d.subRuns else d.prsRuns
  | .adc => d.bit .ADM 7 && d.prsRuns
  | .dsad => d.dsadOn && if d.dsadOnSub then d.subRuns else d.prsRuns
  | .uart0 => d.bit .ASIM0 7 && d.uart0Clocked
  | .uart6 => d.bit .ASIM6 7 && d.uart6Clocked
  | .csi10 => d.bit .CSIM10 7 && (d.fieldOf .CSIC10 0 3 = 7 || d.prsRuns)
  | .csia0 => d.bit .CSIMA0 7 && if d.bit .CSIMA0 4 then d.prsRuns else d.mode != .stop
  | .mcg => d.bit .MC0CTL0 7 && d.prsRuns
  | .remote => d.bit .RMCN 7 && if d.fieldOf .RMCN 0 2 = 3 then d.subRuns else d.prsRuns
  | .lcd | .lvi | .buz | .pcl => false

/-- Free behaviour of UART6: free registers, flags and requests, and a transmission in progress or none. -/
def Devices.freeUart6 (d : Devices) : Devices :=
  let (b, e) := d.drawBit
  let e := { e with tx6 := { e.tx6 with bits := if b then [true] else [] } }
  let e := ((e.freeReg 0xFF .RXB6).freeReg 0x07 .ASIS6).freeReg 0x03 .ASIF6
  (((e.freeReg 0x80 .ASICL6).freeRaise .st6).freeRaise .sr6).freeRaise .sre6

/-- Free behaviour of CSIA0. -/
def Devices.freeCsia0 (d : Devices) : Devices :=
  let e := (((d.freeBuffer).freeReg 0xFF .SIOA0).freeReg 0x1F .ADTC0).freeReg 0x01 .CSIS0
  (e.freeReg 0x03 .CSIT0).freeRaise .acsi

/-- Free behaviour of the remote-control receiver; a read of RMSR or RMSCR then gives any value (R812, R813). -/
def Devices.freeRemote (d : Devices) : Devices :=
  let e := (((d.rmGo .guideWait).freeReg 0xFF .RMDR).freeReg 0xFF .RMSR).freeReg 0x07 .RMSCR
  ((e.freeReg 0x0F .INTS).freeRaise .rin).freeRaise .remote

/-- Free behaviour of one peripheral at a move: its counts, outputs, status, data and requests take free values. This is all that it
does, since its clocks and the edges at its inputs do not move it then; the levels at its output pins are those of `outputOf`. The
low-voltage detector gives free results where it compares, the clock and buzzer output a free level at the pin. -/
def Devices.freeBlock (d : Devices) (b : Block) : Devices :=
  match b with
  | .tm00 => d.freeTm00
  | .tm50 => (d.freeTm5 .n0).tm50Follow d
  | .tm51 => d.freeTm5 .n1
  | .tm52 => d.freeTm5 .n2
  | .tmh0 => d.freeTmh .n0
  | .tmh1 => d.freeTmh1
  | .tmh2 => d.freeTmh .n2
  | .rtc => d.freeRtc
  | .adc => (d.freeAdcr).freeRaise .ad
  | .dsad => ((d.freeWordReg .ADDCR).freeReg 0x03 .ADDSTR).freeRaise .dsad
  | .uart0 => (((d.freeReg 0xFF .RXB0).freeReg 0x07 .ASIS0).freeRaise .csi10st0).freeRaise .sr0
  | .uart6 => d.freeUart6
  | .csi10 => ((d.freeReg 0xFF .SIO10).freeReg 0x01 .CSIM10).freeRaise .csi10st0
  | .csia0 => d.freeCsia0
  | .mcg => (d.freeReg 0x80 .MC0STR).freeRaise .mcg
  | .remote => d.freeRemote
  | .lcd | .lvi | .buz | .pcl => d

/-- Free behaviour of every peripheral that has it and operates. -/
def Devices.freeBlocks (d : Devices) : Devices :=
  d.wild.foldl (fun e b => if e.blockOn b then e.freeBlock b else e) d

/-! ### Source clocks -/

/-- A divided clock has an edge at this count of the prescaler. -/
def tapped (pre : Word) (tap : Option Nat) : Bool :=
  match tap with
  | some n => pre.toNat % 2 ^ n == 0
  | none => false

/-- Apply a clock where a divided clock has an edge. -/
def Devices.onTap (d : Devices) (tap : Option Nat) (f : Devices → Devices) : Devices :=
  if tapped d.pre.prs tap then f d else d

/-- The timers on fPRS (R508, R537, R562, R563, R582 to R584). -/
def Devices.prsTimers (d : Devices) : Devices :=
  let e := (d.onTap (tm5Tap .n0 (d.fieldOf .TCL50 0 3)) (·.tm5Tick .n0)).tm50Follow d
  let e := e.onTap (tm5Tap .n1 (e.fieldOf .TCL51 0 3)) (·.tm5Tick .n1)
  let e := e.onTap (tmhTap .n2 (e.fieldOf .TMHMD2 4 3)) (·.tmhClock .n2)
  let e := e.onTap (tm5Tap .n2 (e.fieldOf .TCL52 0 3)) (·.tm5Tick .n2)
  let e := e.onTap (tmhTap .n0 (e.fieldOf .TMHMD0 4 3)) (·.tmhClock .n0)
  let e := (e.onTap (tmhTap .n1 (e.fieldOf .TMHMD1 4 3)) (·.tmhClock .n1)).tmh1Follow e
  let e := e.onTap (tm00Tap (e.fieldOf .PRM00 0 3)) (·.tm00Clock)
  e.tm00External

/-- The real-time counter on a divided fPRS (R601). -/
def rtcTap (sel : Nat) : Option Nat :=
  match sel with
  | 1 => some 7 | 2 => some 8 | _ => none

/-- One clock of fPRS for every peripheral that it runs (R508). -/
def Devices.prsClock (d : Devices) : Devices :=
  let e := { d with pre := { d.pre with prs := d.pre.prs + 1 } }
  let e := e.prsTimers
  let e := e.onTap (rtcTap (e.fieldOf .RTCCL 0 2)) (·.rtcClock)
  let e := (e.adcClock).dsadClock
  let e := e.onTap (uart0Tap (e.fieldOf .BRGC0 6 2)) (·.uart0Clock)
  let e := e.onTap (uart6Tap (e.fieldOf .CKSR6 0 4)) (·.uart6Clock)
  let e := e.onTap (csi10Tap (e.fieldOf .CSIC10 0 3)) (·.csi10Clock)
  let e := e.onTap (some (e.fieldOf .CSIS0 6 1)) (·.csiaClock)
  let e := e.onTap (lcdTap (e.fieldOf .LCDC0 4 3)) (·.lcdClock)
  let e := e.onTap (some (e.fieldOf .MC0CTL1 0 3)) (·.mcgClock)
  let e := e.onTap (remoteTap (e.fieldOf .RMCN 0 2)) (·.remoteClock)
  e.prsOutputs

/-- One clock of fSUB (R508); in STOP mode timer 00 does not count it (R848). -/
def Devices.subClock (d : Devices) : Devices :=
  let e := { d with pre := { d.pre with sub := d.pre.sub + 1 } }
  let e := if e.fieldOf .PRM00 0 3 = 5 && e.mode != .stop then e.tm00Clock else e
  let e := if e.fieldOf .RTCCL 0 2 = 0 then e.rtcClock else e
  let e := e.dsadSubClock
  let e := if e.fieldOf .LCDC0 4 3 = 0 then e.lcdClock else e
  let e := if e.fieldOf .RMCN 0 2 = 3 then e.remoteClock else e
  e.subOutputs

/-- The divided fRL that is the count clock of timer H1 (R583). -/
def tmh1RlTap (sel : Nat) : Option Nat :=
  match sel with
  | 5 => some 7 | 6 => some 9 | 7 => some 0 | _ => none

/-- One clock of fRL (R490); in STOP mode the LCD controller runs on the subsystem clock only (R848). -/
def Devices.rlClock (d : Devices) : Devices :=
  let e := { d with pre := { d.pre with rl := d.pre.rl + 1 } }.wdtClock
  let e := (if tapped e.pre.rl (tmh1RlTap (e.fieldOf .TMHMD1 4 3)) then e.tmhClock .n1 else e).tmh1Follow e
  if e.fieldOf .LCDC0 4 3 = 4 && tapped e.pre.rl (some 3) && e.mode != .stop then e.lcdClock else e

/-! ### The environment -/

/-- Drive a pin to a level (R471). -/
def Env.drive (env : Env) (m : Nat) (n : BitNo) (level : Bool) : Env :=
  let l := Cells.read (fun _ => 0) env.level m
  let v := Cells.read (fun _ => 0) env.driven m
  { env with level := Cells.write (fun _ => 0) env.level m (setBit l n.val level),
             driven := Cells.write (fun _ => 0) env.driven m (setBit v n.val true) }

/-- Drive a pin no longer. -/
def Env.float (env : Env) (m : Nat) (n : BitNo) : Env :=
  let v := Cells.read (fun _ => 0) env.driven m
  { env with driven := Cells.write (fun _ => 0) env.driven m (setBit v n.val false) }

/-- Put a voltage on a port 2 pin. -/
def Env.putAnalog (env : Env) (n : BitNo) (mv : Nat) : Env :=
  { env with analog := (n.val, mv) :: env.analog.filter fun p => p.1 != n.val }

/-- Change a voltage that the low-voltage detector may watch. -/
def Devices.voltage (d : Devices) (env : Env) : Devices :=
  let e := { d with env := env }
  if d.mode = .held then e else e.lviCompare

/-- What an agent other than the CPU does (D23). A clock move has no effect while its clock does not run; peripherals whose
clock was stopped and runs again go on from where they stopped, although the rule has them initialised: DESIGN CHOICE, unsafe
(R495; log entry 79). -/
def Devices.act (d : Devices) (m : AgentMove) : Devices :=
  match m with
  | .prs => if d.prsRuns then d.prsClock else d
  | .sub => if d.subRuns then d.subClock else d
  | .rl => if d.mode != .held && d.rlRuns then d.rlClock else d
  | .x1 => d.x1Clock
  | .drive p n v => { d with env := d.env.drive p n v }
  | .float p n => { d with env := d.env.float p n }
  | .vdd mv => (d.voltage { d.env with vdd := mv }).pocCompare
  | .exlvi mv => d.voltage { d.env with exlvi := mv }
  | .avref mv => Devices.adcDisturb { d with env := { d.env with avref := mv } } (mv != d.env.avref)
  | .analog n mv =>
    let e := { d with env := d.env.putAnalog n mv }
    e.adcDisturb e.adcAffected
  | .resetPin low =>
    let e := { d with env := { d.env with resetLow := low } }
    if low then e.requestReset .pin else e
  | .cpuClockSwitched => d.finishCss
  | .mainClockSwitched => d.finishMcs
  | .rhStable => if d.rhRuns then { d with clock := { d.clock with rhStable := true } } else d
  | .xtStable => if d.bit .OSCCTL 4 then { d with clock := { d.clock with xtStable := true } } else d

/-- A move of an agent other than the CPU: what the peripherals with free behaviour do (U11), what the agent does, and what the inputs
see of it (D23, R471). -/
def Devices.move (d : Devices) (m : AgentMove) : Devices := (d.freeBlocks.act m).momentPasses d

/-- The reset signal ends when nothing holds it any more (R872); LVIF then follows the voltage again (R861, R866). -/
def Devices.release (d : Devices) : Devices :=
  if d.mode = .held && !d.resetHeld then { d with mode := .run, lviLow := d.bit .LVIM 7 && d.lviBelow } else d

end Sys2Proof.Machine
end

