-- ==== Sys2Proof/Machine/Areas.lean ====
section
/-! DEFINITION. The memory map (R101, R106, R107, R900, R901): which kind of storage answers at an address, which
addresses hold instructions, and the areas that the watchdog's illegal-access detection leaves alone (R626). -/

namespace Sys2Proof.Machine

/-- What answers a data access at an address (R101). -/
inductive Area where
  /-- flash memory within the product's ROM and the ROM area that IMS sets: stores have no effect (R121) -/
  | flash
  /-- internal high-speed RAM or internal expansion RAM -/
  | ram
  /-- LCD display RAM (R107) -/
  | lcd
  /-- CSIA0 buffer RAM (R107) -/
  | buffer
  /-- the stack pointer at FF1CH and FF1DH (R39) -/
  | sp
  /-- the program status word at FF1EH (R35) -/
  | psw
  /-- a special function register, or FA26H and FA27H (R107, R109) -/
  | sfr
  /-- nothing: an unusable area or one that IMS and IXS exclude (R108) -/
  | closed
  deriving DecidableEq, Repr

/-- The first address above the flash memory that can be accessed: the product's ROM, as limited by IMS (R6, R900). -/
def Devices.flashEnd (d : Devices) : Nat := min d.chip.product.romSize (imsRomEnd (d.rd .IMS))

/-- The first address of the high-speed RAM that can be accessed (R6, R900). -/
def Devices.ramStart (d : Devices) : Nat := max d.chip.product.ramStart (imsRamStart (d.rd .IMS))

/-- The internal expansion RAM is mounted and IXS opens it (R901). -/
def Devices.expansionOpen (d : Devices) : Bool := d.chip.product.hasExpansion && d.rd .IXS == 0x0A#8

/-- An address of the open internal expansion RAM (R106). -/
def Devices.inExpansion (d : Devices) (a : Nat) : Bool := d.expansionOpen && decide (0xF400 ≤ a) && decide (a < 0xF800)

/-- The two ΔΣ A/D registers below the SFR area (R107). -/
def Devices.inDelay (d : Devices) (a : Nat) : Bool := d.series.hasDsad && (a == 0xFA26 || a == 0xFA27)

/-- The LCD display RAM of the product (R107). -/
def Devices.inLcd (d : Devices) (a : Nat) : Bool := decide (0xFA40 ≤ a) && decide (a < 0xFA40 + d.series.lcdBytes)

/-- The CSIA0 buffer RAM, in 78K0/LF3 only (R107). -/
def Devices.inBuffer (d : Devices) (a : Nat) : Bool := d.series.isLf && decide (0xFA00 ≤ a) && decide (a < 0xFA20)

/-- The kind of register at an address from FF00H on (R35, R39, R109). -/
def registerArea (a : Nat) : Area :=
  if a = 0xFF1C ∨ a = 0xFF1D then .sp else if a = 0xFF1E then .psw else .sfr

/-- What answers a data access at an address (R101). -/
def Devices.area (d : Devices) (a : Nat) : Area :=
  if 0xFF00 ≤ a then registerArea a
  else if d.ramStart ≤ a then .ram
  else if a < d.flashEnd then .flash
  else if d.inExpansion a then .ram
  else if d.inLcd a then .lcd
  else if d.inBuffer a then .buffer
  else if d.inDelay a then .sfr
  else .closed

/-- Instructions can be fetched here: flash and open expansion RAM (R122). -/
def Devices.fetchable (d : Devices) (a : Nat) : Bool := decide (a < d.flashEnd) || d.inExpansion a

/-- The areas that IMS and IXS set (R626): the ROM area, the high-speed RAM area and the expansion RAM. -/
def Devices.setByImsIxs (d : Devices) (a : Nat) : Bool :=
  decide (a < imsRomEnd (d.rd .IMS)) || (decide (imsRamStart (d.rd .IMS) ≤ a) && decide (a < 0xFF00)) || d.inExpansion a

/-- The addresses whose data access never causes the watchdog's reset (R108, R626). -/
def watchdogBlind (a : Nat) : Bool := (decide (0xFB00 ≤ a) && decide (a ≤ 0xFFCF)) || decide (0xFFE0 ≤ a)

/-- A data access where nothing answers is caught by the illegal-access detection (R108, R626), also beyond the product's
memory inside the areas that IMS sets (U1). -/
def Devices.catchesAccess (d : Devices) (a : Nat) : Bool := d.wdton && !watchdogBlind a

/-- A data access where nothing answers (R108, U1): it requests the watchdog's reset where the illegal-access detection looks, and
elsewhere a fault is recorded. -/
def Devices.strayAccess (d : Devices) (a : Nat) : Devices :=
  if d.catchesAccess a then d.requestReset .watchdog else d.note a

/-- A fetch where no instructions are held is caught by the illegal-access detection (R122, R626, U2). -/
def Devices.catchesFetch (d : Devices) (a : Nat) : Bool := d.wdton && !d.setByImsIxs a

/-- The flash cell that an address names: with boot swap active the two boot clusters are exchanged (R906). -/
def Devices.flashCell (d : Devices) (a : Nat) : Nat :=
  if d.chip.bootActive then
    if a < 0x1000 then a + 0x1000 else if a < 0x2000 then a - 0x1000 else a
  else a

/-- The display bits of an LCD display RAM byte: the first four bytes have no upper half (R780). -/
def lcdMask (a : Nat) : Byte := if a < 0xFA44 then 0x0F else 0xFF

end Sys2Proof.Machine
end

