-- ==== Sys2Proof/Machine/Ops.lean ====
section
/-! DEFINITION. The named operations of the CPU over registers and memory: general registers, PSW, MemRead and MemWrite
(R120, R121), the stack, taking an exception and returning from one, and the reset sequence. -/

namespace Sys2Proof.Machine

/-! ### General registers (R21, R22) -/

/-- The bank that RBS1 and RBS0 select (R21). -/
def bankOf (psw : Byte) : Nat := (if psw.getLsbD 5 then 2 else 0) + (if psw.getLsbD 3 then 1 else 0)

/-- The address of a general register in the bank that `psw` selects (R21). -/
def regAddr (psw : Byte) (r : Reg8) : Nat := 0xFEF8 - 8 * bankOf psw + r.code.toNat

/-- The register of a pair that is its low byte (R22). -/
def lowReg : RegPair → Reg8
  | .ax => .x | .bc => .c | .de => .e | .hl => .l

/-- The register of a pair that is its high byte (R22). -/
def highReg : RegPair → Reg8
  | .ax => .a | .bc => .b | .de => .d | .hl => .h

/-- A general register of the selected bank. -/
def State.reg (s : State) (r : Reg8) : Byte := s.mem.get (regAddr s.psw r)

/-- Write a general register of the bank that `psw` selects. -/
def State.putRegOf (s : State) (psw : Byte) (r : Reg8) (v : Byte) : State :=
  { s with mem := s.mem.put (regAddr psw r) v }

/-- Write a general register of the selected bank. -/
def State.putReg (s : State) (r : Reg8) (v : Byte) : State := s.putRegOf s.psw r v

/-- A register pair of the selected bank (R15). -/
def State.pair (s : State) (rp : RegPair) : Word := join (s.reg (highReg rp)) (s.reg (lowReg rp))

/-- Write a register pair of the selected bank. -/
def State.putPair (s : State) (rp : RegPair) (w : Word) : State :=
  (s.putReg (lowReg rp) (lo w)).putReg (highReg rp) (hi w)

/-! ### PSW (R27, R28) -/

/-- A PSW value with the constant bit 2 (R28). -/
def pswValue (v : Byte) : Byte := v &&& 0xFB

/-- Write PSW whole: a write to bit 2 is ignored (R28). -/
def State.putPsw (s : State) (v : Byte) : State := { s with psw := pswValue v }

/-- The carry flag. -/
def State.cy (s : State) : Bool := s.psw.getLsbD 0

/-- The interrupt enable flag. -/
def State.ie (s : State) : Bool := s.psw.getLsbD 7

/-- The in-service priority flag. -/
def State.isp (s : State) : Bool := s.psw.getLsbD 1

/-- The zero flag. -/
def State.zero (s : State) : Bool := s.psw.getLsbD 6

/-- The auxiliary carry flag. -/
def State.ac (s : State) : Bool := s.psw.getLsbD 4

/-- Write one bit of PSW (R35). -/
def State.putPswBit (s : State) (n : Nat) (v : Bool) : State := s.putPsw (setBit s.psw n v)

/-- Write the carry flag. -/
def State.putCy (s : State) (v : Bool) : State := s.putPswBit 0 v

/-- Hold interrupt requests until the next instruction has executed (R430). -/
def State.holding (s : State) : State := { s with hold := true }

/-! ### MemRead and MemWrite (R120, R121) -/

/-- The registers of interrupt requests, masks and priorities, FFE0H to FFEBH: an access to them holds (R430, D17). -/
def holdsAt (a : Nat) : Bool := decide (0xFFE0 ≤ a) && decide (a ≤ 0xFFEB)

/-- A data access touches an address: the hold condition of R430. -/
def State.touch (s : State) (a : Nat) : State := if holdsAt a then s.holding else s

/-- The byte a flash address reads as (R906). -/
def State.flashByte (s : State) (a : Nat) : Byte := s.mem.get (s.dev.flashCell a)

/-- The word that a table in flash holds at an address, low byte first (R103, R104). -/
def State.tableWord (s : State) (a : Nat) : Word := join (s.flashByte (a + 1)) (s.flashByte a)

/-- A read that gives any value, and what it did outside the CPU (U1). -/
def State.loadAny (s : State) (d : Devices) : Byte × State := (d.drawByte.1, { s with dev := d.drawByte.2 })

/-- An SFR address without a register, where the illegal-access detection looks (R626). -/
def State.sfrCaught (s : State) (a : Nat) : Bool := s.dev.catchesAccess a && (s.dev.regAt a).isNone

/-- `MemRead(a, 1)` by an access in a unit (R120). Where nothing answers it gives any value (U1), and so does the buffer RAM with
CSIAE0 = 0 (R768; log entry 103); with CSIAE0 = 1 the access may extend an interval of CSIA0 (R768; log entry 142). -/
def State.load (s : State) (u : AccessUnit) (addr : Word) : Res (Byte × State) :=
  let a := addr.toNat
  match s.dev.area a with
  | .flash => .next (s.flashByte a, s)
  | .ram => .next (s.mem.get a, s)
  | .lcd => .next (s.dev.ram.get a &&& lcdMask a, s)
  | .buffer =>
    .next (if s.dev.bit .CSIMA0 7 then (s.dev.ram.get a, { s with dev := s.dev.csiaContend })
      else s.loadAny (s.dev.note a))
  | .sp => .next (if a = 0xFF1C then lo s.sp else hi s.sp, s)
  | .psw => .next (s.psw, s)
  | .sfr =>
    if s.sfrCaught a then .next (s.loadAny (s.dev.strayAccess a))
    else andThen2 (s.dev.sfrRead u a) fun v d => .next (v, { s with dev := d }.touch a)
  | .closed => .next (s.loadAny (s.dev.strayAccess a))

/-- `MemWrite(a, 1, v)` by an access in a unit (R121). Where nothing answers it stores nothing (U1), and so in the buffer RAM with
CSIAE0 = 0 (R768; log entry 103); with CSIAE0 = 1 the access may extend an interval of CSIA0 (R768; log entry 142). -/
def State.store (s : State) (u : AccessUnit) (addr : Word) (v : Byte) : Res State :=
  let a := addr.toNat
  match s.dev.area a with
  | .flash => .next s
  | .ram => .next { s with mem := s.mem.put a v }
  | .lcd => .next { s with dev := { s.dev with ram := s.dev.ram.put a (v &&& lcdMask a) } }
  | .buffer =>
    let d := if s.dev.bit .CSIMA0 7 then { s.dev.csiaContend with ram := s.dev.ram.put a v } else s.dev.note a
    .next { s with dev := d }
  | .sp => .next { s with sp := if a = 0xFF1C then join (hi s.sp) v else join v (lo s.sp) }
  | .psw => .next (s.putPsw v)
  | .sfr =>
    if s.sfrCaught a then .next { s with dev := s.dev.strayAccess a }
    else andThen (s.dev.sfrWrite u a v) fun d => .next ({ s with dev := d }.touch a)
  | .closed => .next { s with dev := s.dev.strayAccess a }

/-- `MemRead(a, 2)` (R110, R120): an even address only (U5); a 16-bit register is one access, memory two byte accesses,
low byte first (D7). PSW is an 8-bit register (R39, U4). -/
def State.loadWord (s : State) (addr : Word) : Res (Word × State) :=
  if addr.getLsbD 0 then .refused .oddOperand
  else
    let a := addr.toNat
    match s.dev.area a with
    | .sp => .next (s.sp, s)
    | .psw => .refused (.sfrWidth a)
    | .sfr =>
      if s.sfrCaught a then .next (zext (s.loadAny (s.dev.strayAccess a)).1, (s.loadAny (s.dev.strayAccess a)).2)
      else andThen2 (s.dev.sfrReadWord a) fun w d => .next (w, { s with dev := d }.touch a)
    | _ =>
      andThen2 (s.load .byte addr) fun l t =>
        andThen2 (t.load .byte (addr + 1)) fun h u => .next (join h l, u)

/-- `MemWrite(a, 2, v)` (R110, R121, U5, D7). -/
def State.storeWord (s : State) (addr : Word) (v : Word) : Res State :=
  if addr.getLsbD 0 then .refused .oddOperand
  else
    let a := addr.toNat
    match s.dev.area a with
    | .sp => .next { s with sp := v }
    | .psw => .refused (.sfrWidth a)
    | .sfr =>
      if s.sfrCaught a then .next { s with dev := s.dev.strayAccess a }
      else andThen (s.dev.sfrWriteWord a v) fun d => .next ({ s with dev := d }.touch a)
    | _ => andThen (s.store .byte addr (lo v)) fun t => t.store .byte (addr + 1) (hi v)

/-! ### Between the read and the write of one instruction (R146) -/

/-- The moves that take place between the read and the write of an instruction's operand, and that are done then: a peripheral
may change a register there (R146). -/
def State.midway (s : State) : State :=
  match s.between with
  | [] => s
  | ms => { s with dev := ms.foldl Devices.move s.dev, between := [] }

/-- The interrupt request flags at an address that hardware sets between the read and the write of a 1-bit manipulation, which
does not lose them (R285). -/
def State.raisedMidway (s : State) (u : AccessUnit) (ea : Word) : Byte :=
  if u == .bit && 0xFFE0 ≤ ea.toNat && ea.toNat ≤ 0xFFE3 then
    Cells.read sfrReset s.midway.dev.sfrs ea.toNat &&& ~~~(Cells.read sfrReset s.dev.sfrs ea.toNat)
  else 0

/-- Read a byte and write it back changed: `f` gives the byte to write, or nothing to write (R145, R146). Gives the byte that
was read. -/
def State.modify (s : State) (u : AccessUnit) (ea : Word) (f : Byte → Option Byte) : Res (Byte × State) :=
  andThen2 (s.load u ea) fun v t =>
    match f v with
    | some w => andThen (t.midway.store u ea (w ||| t.raisedMidway u ea)) fun t' => .next (v, t')
    | none => .next (v, t)

/-! ### The stack (R36 to R38) -/

/-- Store bytes one below the other, the first just below `top`. -/
def State.storeDown (s : State) (top : Word) : List Byte → Res State
  | [] => .next s
  | v :: vs => andThen (s.store .byte (top - 1) v) fun t => t.storeDown (top - 1) vs

/-- Save bytes on the stack, the first at the highest address (R36, R37). -/
def State.push (s : State) (vs : List Byte) : Res State :=
  andThen (s.storeDown s.sp vs) fun t => .next { t with sp := s.sp - BitVec.ofNat 16 vs.length }

/-- Read a word on the stack: the high byte at SP + 1, then the low byte at SP (R364 to R366). -/
def State.peekWord (s : State) : Res (Word × State) :=
  andThen2 (s.load .byte (s.sp + 1)) fun h t =>
    andThen2 (t.load .byte s.sp) fun l u => .next (join h l, u)

/-- Restore a word from the stack (R37, R364). -/
def State.popWord (s : State) : Res (Word × State) :=
  andThen2 s.peekWord fun w u => .next (w, { u with sp := s.sp + 2 })

/-- Restore a byte from the stack (R37, R372). -/
def State.popByte (s : State) : Res (Byte × State) :=
  andThen2 (s.load .byte s.sp) fun v t => .next (v, { t with sp := s.sp + 1 })

/-- Push the return address and go to a target: the calls (R360 to R362). -/
def State.callTo (s : State) (target : Word) : Res State :=
  andThen (s.push [hi s.pc, lo s.pc]) fun t => .next { t with pc := target }

/-! ### Taking an exception and returning from it (R363, R420, R422) -/

/-- Enter the handler of a vector: PSW and the return address are pushed, IE is cleared, and PC is loaded from the vector
table. ISP changes only for a maskable interrupt, to the priority flag of the source. -/
def State.enter (s : State) (vector : Nat) (isp : Option Bool) : Res State :=
  andThen (s.push [s.psw, hi s.pc, lo s.pc]) fun t =>
    let u := t.putPswBit 7 false
    let w := match isp with
      | some b => u.putPswBit 1 b
      | none => u
    .next { w with pc := w.tableWord vector }

/-- Return from an exception: PC and then the whole PSW are read, and SP is raised after both (R365, R366). -/
def State.leave (s : State) : Res State :=
  andThen2 s.peekWord fun w t =>
    andThen2 (t.load .byte (s.sp + 2)) fun v u => .next { u.putPsw v with pc := w, sp := s.sp + 3 }

/-! ### Accepting a maskable interrupt (R402, R420) -/

/-- Requests of group `k` that are acceptable and of the given priority flag. -/
def Devices.acceptable (d : Devices) (low : Bool) (k : Nat) : Byte :=
  d.unmasked k &&& (if low then d.rd (prioReg k) else ~~~(d.rd (prioReg k)))

/-- The lowest default priority number among the acceptable requests with a priority flag. -/
def Devices.firstRequest (d : Devices) (low : Bool) : Option Nat :=
  (List.range 29).find? fun n => (d.acceptable low (n / 8)).getLsbD (n % 8)

/-- The request to be taken, with its priority flag: a high-priority one before any low-priority one (R420). -/
def Devices.chosenRequest (d : Devices) : Option (Nat × Bool) :=
  match d.firstRequest false with
  | some n => some (n, false)
  | none => (d.firstRequest true).map fun n => (n, true)

/-- The vector of a default priority number (R401). -/
def vectorOf (n : Nat) : Nat := 0x0004 + 2 * n

/-- Accept the chosen request: clear its flag and enter its handler (R420). -/
def State.acceptRequest (s : State) (n : Nat) (low : Bool) : Res State :=
  State.enter { s with dev := s.dev.putBit (flagReg (n / 8)) (n % 8) false } (vectorOf n) (some low)

/-- Evaluate R420: accept the chosen request if IE = 1 and, for a low-priority one, ISP = 1. -/
def State.acceptInterrupt (s : State) : Res State :=
  match s.dev.chosenRequest with
  | some (n, low) => if s.ie && (!low || s.isp) then s.acceptRequest n low else .next s
  | none => .next s

/-! ### Reset (R930 to R941) -/

/-- The machine is in a standby mode. -/
def Mode.standby : Mode → Bool
  | .halt | .stop | .stabilise => true
  | .run | .held => false

/-- A reset leaves RAM as it is: one accepted in a standby mode (R935), and one requested while a reset signal is still active,
which the CPU has not left since (R930). -/
def Mode.retains : Mode → Bool
  | .run => false
  | .halt | .stop | .stabilise | .held => true

/-- RAM after a reset: flash stays; the rest is undefined unless retained (R935). -/
def Memory.afterReset (m : Memory) (retained : Bool) : Memory :=
  if retained then m else ⟨m.epoch + 1, m.cells.filter fun c => c.1 < 0xF000⟩

/-- The chip with the boot flag in effect and the option bytes read (R890, R906). -/
def State.rebootedChip (s : State) : Chip :=
  let c := { s.dev.chip with bootActive := s.dev.chip.bootFlag }
  let d := { s.dev with chip := c }
  { c with option80 := s.mem.get (d.flashCell 0x0080), option81 := s.mem.get (d.flashCell 0x0081) }

/-- RESF after a reset (R871). -/
def resfAfter (c : ResetCause) (old : Byte) : Byte :=
  match c with
  | .pin | .poc => 0
  | .watchdog => old ||| 0x10
  | .lvi => old ||| 0x01

/-- LVIM or LVIS after a reset: held on an LVI reset (R871). -/
def lviAfter (c : ResetCause) (old : Byte) : Byte := if c = .lvi then old else 0

/-- The internal high-speed oscillator is stable when the CPU starts: only after the power-on sequence of the 1.59 V mode,
which waits for it (R494, R507). -/
def stableAfter (c : ResetCause) (chip : Chip) : Bool := decide (c = .poc) && !chip.option81.getLsbD 0

/-- Everything outside the CPU after a reset: every register at its reset value but for those that depend on the cause. -/
def State.devicesAfterReset (s : State) (c : ResetCause) : Devices :=
  let d := s.dev
  let e := Devices.reset s.rebootedChip d.env (d.ram.afterReset d.mode.retains) d.draws d.moment d.noted
    (stableAfter c s.rebootedChip)
  let e := ((e.wr .RESF (resfAfter c (d.rd .RESF))).wr .LVIM (lviAfter c (d.rd .LVIM))).wr .LVIS (lviAfter c (d.rd .LVIS))
  let e := { e with lviLow := e.bit .LVIM 7 && e.lviBelow, pocLow := d.pocLow }
  { e with mode := if e.resetHeld then .held else .run }

/-- The reset sequence: PC from the reset vector, PSW 02H, SP undefined, the devices and RAM as reset leaves them (R930 to
R935). While the reset signal lasts, where R873 and R931 call PC undefined, PC holds the reset vector already: DESIGN CHOICE, unsafe
(log entry 193). -/
def State.takeReset (s : State) (c : ResetCause) : State :=
  let t := { s with dev := s.devicesAfterReset c, mem := s.mem.afterReset s.dev.mode.retains }
  { t with pc := t.tableWord 0, psw := 0x02, sp := Config.spAfterReset s.draws, draws := s.draws + 1, hold := false }

end Sys2Proof.Machine
end

