-- ==== Sys2Proof/Machine/Boundary.lean ====
section
/-! DEFINITION. What follows a move: pending clock switches, a requested reset, the release of standby, and the acceptance
of an interrupt at an instruction boundary (R421, R430, R505, R841, R930). -/

namespace Sys2Proof.Machine

/-- A requested reset takes place (R930). -/
def State.settle (s : State) : State :=
  match s.dev.resetReq with
  | some c => s.takeReset c
  | none => s

/-- The check of R421 at the boundary after an instruction: suppressed once by the hold condition (R430), and made only
while the CPU runs. The acceptance is no instruction, so its own stack accesses leave no hold. -/
def State.checkRequests (s : State) : Res State :=
  if s.hold then .next { s with hold := false }
  else if s.dev.mode = .run then andThen s.acceptInterrupt fun t => .next (State.settle { t with hold := false })
  else .next s

/-- The boundary after an instruction of `n` CPU clocks: clocks counted and clock switches advanced (R505, R506), the moment
over (R466); then a requested reset, or the release of a standby mode just entered (R841) and the check of R421. A switch by CSS or
MCM0 that was pending at a STOP instruction is complete in STOP mode (`Devices.enterStop`): DESIGN CHOICE, unsafe (R397, R506; log
entry 95). -/
def State.boundary (s : State) (n : Nat) : Res State :=
  let t := { s with cpuClocks := s.cpuClocks + n, dev := (s.dev.clockSwitches n).momentPasses s.dev }
  match t.dev.resetReq with
  | some c => .next (t.takeReset c)
  | none => State.checkRequests { t with dev := t.dev.wake }

/-- After a move that is not the CPU's, made in standby or not: a requested reset, or a reset signal that ends, the release
of standby, and the check of R421 where the CPU resumes from standby (R844, R850). -/
def State.afterMove (s : State) (wasStandby : Bool) : Res State :=
  match s.dev.resetReq with
  | some c => .next (s.takeReset c)
  | none =>
    let t := { s with dev := s.dev.release.wake }
    if wasStandby && decide (t.dev.mode = .run) then t.checkRequests else .next t

/-- The turn of an agent other than the CPU (D23). -/
def State.otherTurn (s : State) (m : AgentMove) : Res State :=
  State.afterMove { s with dev := s.dev.move m } s.dev.mode.standby

end Sys2Proof.Machine
end

