-- ==== Sys2Proof/Machine/Flags.lean ====
section
/-! DEFINITION. Results and flags of the operations: the 8-bit operations (R16, R231), increment and decrement (R255, R256),
the 16-bit operations (R250 to R252), multiplication and division (R253, R254), and the decimal adjustments (R276, R277). -/

namespace Sys2Proof.Machine

/-- What an 8-bit operation gives: its result, from which Z follows, and AC and CY where it writes them (R231). -/
structure AluOut where
  value : Byte
  ac    : Option Bool
  cy    : Option Bool
  deriving DecidableEq, Repr

/-- A carry or borrow as a number. -/
def carry (c : Bool) : Nat := if c then 1 else 0

/-- `add8` (R16, R231). -/
def add8 (a b : Byte) (c : Bool) : AluOut where
  value := BitVec.ofNat 8 (a.toNat + b.toNat + carry c)
  ac := some (decide (15 < a.toNat % 16 + b.toNat % 16 + carry c))
  cy := some (decide (255 < a.toNat + b.toNat + carry c))

/-- `sub8` (R16, R231). -/
def sub8 (a b : Byte) (c : Bool) : AluOut where
  value := a - b - BitVec.ofNat 8 (carry c)
  ac := some (decide (a.toNat % 16 < b.toNat % 16 + carry c))
  cy := some (decide (a.toNat < b.toNat + carry c))

/-- A logical operation: AC and CY stay (R231). -/
def logic8 (v : Byte) : AluOut := ⟨v, none, none⟩

/-- The eight operations on left operand `a`, right operand `b` and the carry flag (R232 to R239). -/
def aluRun (op : AluOp) (a b : Byte) (cy : Bool) : AluOut :=
  match op with
  | .add => add8 a b false
  | .addc => add8 a b cy
  | .sub => sub8 a b false
  | .subc => sub8 a b cy
  | .cmp => sub8 a b false
  | .and => logic8 (a &&& b)
  | .or => logic8 (a ||| b)
  | .xor => logic8 (a ^^^ b)

/-- The operation writes its left operand: all but CMP (R230). -/
def aluWrites (op : AluOp) : Bool := op != .cmp

/-- `INC` (R255): Z and AC, not CY. -/
def inc8 (a : Byte) : AluOut := ⟨a + 1, some (decide (a.toNat % 16 = 15)), none⟩

/-- `DEC` (R256): Z and AC, not CY. -/
def dec8 (a : Byte) : AluOut := ⟨a - 1, some (decide (a.toNat % 16 = 0)), none⟩

/-- A bit of a byte made a value, where there is one. -/
def setBitIf (b : Byte) (n : Nat) (v : Option Bool) : Byte :=
  match v with
  | some x => setBit b n x
  | none => b

/-- PSW with the flags of an operation: Z by the result, AC and CY where they are written (R27, R231). -/
def flagsInto (psw : Byte) (z : Bool) (ac cy : Option Bool) : Byte :=
  pswValue (setBitIf (setBitIf (setBit psw 6 z) 4 ac) 0 cy)

/-- Put the flags of an operation into PSW. -/
def State.putFlags (s : State) (o : AluOut) : State :=
  { s with psw := flagsInto s.psw (o.value == 0) o.ac o.cy }

/-! ### 16-bit operations (R250 to R252) -/

/-- Put Z and CY of a 16-bit operation; AC takes a free value, one draw for each execution (U7). -/
def State.putFlags16 (s : State) (result : Word) (cy : Bool) : State :=
  { s with psw := flagsInto s.psw (result == 0) (some (Config.acAfter16 s.draws)) (some cy), draws := s.draws + 1 }

/-- The quotient and remainder of `DIVUW`, with the values of R254 where the divisor is 0. -/
def divide (n : Word) (d : Byte) : Word × Byte :=
  if d = 0 then (0xFFFF, lo n) else (BitVec.ofNat 16 (n.toNat / d.toNat), BitVec.ofNat 8 (n.toNat % d.toNat))

/-! ### Decimal adjustment (R276, R277) -/

/-- The table of `ADJBA` (R276). -/
def adjustAdd (a : Byte) (ac cy : Bool) : AluOut :=
  let lowN := a.toNat % 16
  let highN := a.toNat / 16
  if ac then
    if decide (highN ≤ 9) && !cy then ⟨a + 0x06, some false, some false⟩ else ⟨a + 0x66, some false, some true⟩
  else if lowN ≤ 9 then
    if decide (highN ≤ 9) && !cy then ⟨a, some false, some false⟩ else ⟨a + 0x60, some false, some true⟩
  else
    if decide (highN < 9) && !cy then ⟨a + 0x06, some true, some false⟩ else ⟨a + 0x66, some true, some true⟩

/-- The table of `ADJBS` (R277). -/
def adjustSub (a : Byte) (ac cy : Bool) : AluOut :=
  ⟨a - (if cy then 0x60 else 0) - (if ac then 0x06 else 0), some false, some cy⟩

end Sys2Proof.Machine
end

