-- ==== Sys2Proof/Machine/Operands.lean ====
section
/-! DEFINITION. The operand forms (R126 to R140, R285): effective addresses, branch targets, and bit operands. -/

namespace Sys2Proof.Machine

/-! ### Effective addresses -/

/-- Short direct addressing (R133): FE20H to FEFFH, and FF00H to FF1FH for offsets below 20H. -/
def saddrEA (offset : Byte) : Word := if offset.toNat < 0x20 then 0xFF00 + zext offset else 0xFE00 + zext offset

/-- SFR addressing (R134). -/
def sfrEA (offset : Byte) : Word := 0xFF00 + zext offset

/-- Register indirect addressing by DE (R135). -/
def State.deEA (s : State) : Word := s.pair .de

/-- Register indirect addressing by HL (R135). -/
def State.hlEA (s : State) : Word := s.pair .hl

/-- Based addressing `[HL+byte]` (R136). -/
def State.hlByteEA (s : State) (disp : Byte) : Word := s.pair .hl + zext disp

/-- Based indexed addressing `[HL+B]` (R137). -/
def State.hlBEA (s : State) : Word := s.pair .hl + zext (s.reg .b)

/-- Based indexed addressing `[HL+C]` (R137). -/
def State.hlCEA (s : State) : Word := s.pair .hl + zext (s.reg .c)

/-- The entry address of `CALLF` (R127, R361). -/
def callfTarget (page : BitNo) (low : Byte) : Word := 0x0800 + BitVec.ofNat 16 (256 * page.val) + zext low

/-- The table address of `CALLT` (R128). -/
def calltEntry (entry : Fin 32) : Nat := 0x0040 + 2 * entry.val

/-! ### Relative addressing (R126) -/

/-- Go to `next + jdisp8`; PC is `next` while an instruction executes. -/
def State.branch (s : State) (disp : Byte) : State := { s with pc := s.pc + sext disp }

/-- Branch where a condition holds. -/
def State.branchIf (s : State) (c : Bool) (disp : Byte) : State := if c then s.branch disp else s

/-! ### Bit operands (R140, R285) -/

/-- Read a bit of the byte at an address. -/
def State.loadBit (s : State) (ea : Word) (n : BitNo) : Res (Bool × State) :=
  andThen2 (s.load .bit ea) fun v t => .next (v.getLsbD n.val, t)

/-- Write a bit of the byte at an address: the whole byte is read and written back. -/
def State.storeBit (s : State) (ea : Word) (n : BitNo) (b : Bool) : Res State :=
  andThen2 (s.modify .bit ea fun v => some (setBit v n.val b)) fun _ u => .next u

/-- Test a bit of the byte at an address and clear it where it is 1, in one read and at most one write (R389). -/
def State.testClear (s : State) (ea : Word) (n : BitNo) : Res (Bool × State) :=
  andThen2 (s.modify .bit ea fun v => if v.getLsbD n.val then some (setBit v n.val false) else none) fun v u =>
    .next (v.getLsbD n.val, u)

end Sys2Proof.Machine
end

