-- ==== Sys2Proof/Machine/Alu16.lean ====
section
/-! DEFINITION. The meanings of the 16-bit operations, multiplication, division, increment and decrement (R250 to R258). -/

namespace Sys2Proof.Machine

/-- INC or DEC of a byte in memory: the result is written back, then its flags are put (R255, R256, D10). -/
def State.countMem (s : State) (ea : Word) (f : Byte → AluOut) : Res State :=
  andThen2 (s.modify .byte ea fun v => some (f v).value) fun v t => .next (t.putFlags (f v))

/-- `ADDW AX,#word` (R250). -/
def execAddwAxImm (word : Word) (s : State) : Res State :=
  .next ((s.putPair .ax (s.pair .ax + word)).putFlags16 (s.pair .ax + word)
    (decide (0xFFFF < (s.pair .ax).toNat + word.toNat)))

/-- `SUBW AX,#word` (R251). -/
def execSubwAxImm (word : Word) (s : State) : Res State :=
  .next ((s.putPair .ax (s.pair .ax - word)).putFlags16 (s.pair .ax - word)
    (decide ((s.pair .ax).toNat < word.toNat)))

/-- `CMPW AX,#word` (R252). -/
def execCmpwAxImm (word : Word) (s : State) : Res State :=
  .next (s.putFlags16 (s.pair .ax - word) (decide ((s.pair .ax).toNat < word.toNat)))

/-- `MULU X` (R253). -/
def execMulu (s : State) : Res State := .next (s.putPair .ax (zext (s.reg .a) * zext (s.reg .x)))

/-- `DIVUW C` (R254). -/
def execDivuw (s : State) : Res State :=
  .next ((s.putPair .ax (divide (s.pair .ax) (s.reg .c)).1).putReg .c (divide (s.pair .ax) (s.reg .c)).2)

/-- `INC r` (R255). -/
def execIncR (r : Reg8) (s : State) : Res State := .next ((s.putReg r (inc8 (s.reg r)).value).putFlags (inc8 (s.reg r)))

/-- `INC saddr` (R255). -/
def execIncSaddr (saddr : Byte) (s : State) : Res State :=
  s.countMem (saddrEA saddr) inc8

/-- `DEC r` (R256). -/
def execDecR (r : Reg8) (s : State) : Res State := .next ((s.putReg r (dec8 (s.reg r)).value).putFlags (dec8 (s.reg r)))

/-- `DEC saddr` (R256). -/
def execDecSaddr (saddr : Byte) (s : State) : Res State :=
  s.countMem (saddrEA saddr) dec8

/-- `INCW rp` (R257). -/
def execIncwRp (rp : RegPair) (s : State) : Res State := .next (s.putPair rp (s.pair rp + 1))

/-- `DECW rp` (R258). -/
def execDecwRp (rp : RegPair) (s : State) : Res State := .next (s.putPair rp (s.pair rp - 1))

end Sys2Proof.Machine
end

