-- ==== Sys2Proof/Machine/Alu8.lean ====
section
/-! DEFINITION. The meanings of the 8-bit operations in their ten operand forms (R230 to R239). -/

namespace Sys2Proof.Machine

/-- A register is the left operand, and the destination unless the operation is CMP (R230). -/
def State.aluReg (s : State) (op : AluOp) (r : Reg8) (b : Byte) : State :=
  let o := aluRun op (s.reg r) b s.cy
  (if aluWrites op then s.putReg r o.value else s).putFlags o

/-- The forms whose left operand is A (R230). -/
def State.aluA (s : State) (op : AluOp) (b : Byte) : State := s.aluReg op .a b

/-- The forms whose right operand is in memory (R230). -/
def State.aluFromMem (s : State) (op : AluOp) (ea : Word) : Res State :=
  andThen2 (s.load .byte ea) fun v t => .next (t.aluA op v)

/-- The form `saddr,#byte`: one read and, except for CMP, one write; where the operand is PSW the flags are applied after
the write (R230, D10). -/
def State.aluToMem (s : State) (op : AluOp) (ea : Word) (b : Byte) : Res State :=
  andThen2 (s.modify .byte ea fun v => if aluWrites op then some (aluRun op v b s.cy).value else none) fun v u =>
    .next (u.putFlags (aluRun op v b s.cy))

/-- `ADD A,#byte` (R232). -/
def execAddAImm (imm : Byte) (s : State) : Res State := .next (s.aluA .add imm)

/-- `ADD saddr,#byte` (R232). -/
def execAddSaddrImm (saddr : Byte) (imm : Byte) (s : State) : Res State := s.aluToMem .add (saddrEA saddr) imm

/-- `ADD A,r` (R232). -/
def execAddAR (r : Reg8) (s : State) : Res State := .next (s.aluA .add (s.reg r))

/-- `ADD r,A` (R232). -/
def execAddRA (r : Reg8) (s : State) : Res State := .next (s.aluReg .add r (s.reg .a))

/-- `ADD A,saddr` (R232). -/
def execAddASaddr (saddr : Byte) (s : State) : Res State := s.aluFromMem .add (saddrEA saddr)

/-- `ADD A,!addr16` (R232). -/
def execAddAAddr16 (addr : Word) (s : State) : Res State := s.aluFromMem .add addr

/-- `ADD A,[HL]` (R232). -/
def execAddAHl (s : State) : Res State := s.aluFromMem .add s.hlEA

/-- `ADD A,[HL+byte]` (R232). -/
def execAddAHlByte (disp : Byte) (s : State) : Res State := s.aluFromMem .add (s.hlByteEA disp)

/-- `ADD A,[HL+B]` (R232). -/
def execAddAHlB (s : State) : Res State := s.aluFromMem .add s.hlBEA

/-- `ADD A,[HL+C]` (R232). -/
def execAddAHlC (s : State) : Res State := s.aluFromMem .add s.hlCEA

/-- `ADDC A,#byte` (R233). -/
def execAddcAImm (imm : Byte) (s : State) : Res State := .next (s.aluA .addc imm)

/-- `ADDC saddr,#byte` (R233). -/
def execAddcSaddrImm (saddr : Byte) (imm : Byte) (s : State) : Res State := s.aluToMem .addc (saddrEA saddr) imm

/-- `ADDC A,r` (R233). -/
def execAddcAR (r : Reg8) (s : State) : Res State := .next (s.aluA .addc (s.reg r))

/-- `ADDC r,A` (R233). -/
def execAddcRA (r : Reg8) (s : State) : Res State := .next (s.aluReg .addc r (s.reg .a))

/-- `ADDC A,saddr` (R233). -/
def execAddcASaddr (saddr : Byte) (s : State) : Res State := s.aluFromMem .addc (saddrEA saddr)

/-- `ADDC A,!addr16` (R233). -/
def execAddcAAddr16 (addr : Word) (s : State) : Res State := s.aluFromMem .addc addr

/-- `ADDC A,[HL]` (R233). -/
def execAddcAHl (s : State) : Res State := s.aluFromMem .addc s.hlEA

/-- `ADDC A,[HL+byte]` (R233). -/
def execAddcAHlByte (disp : Byte) (s : State) : Res State := s.aluFromMem .addc (s.hlByteEA disp)

/-- `ADDC A,[HL+B]` (R233). -/
def execAddcAHlB (s : State) : Res State := s.aluFromMem .addc s.hlBEA

/-- `ADDC A,[HL+C]` (R233). -/
def execAddcAHlC (s : State) : Res State := s.aluFromMem .addc s.hlCEA

/-- `SUB A,#byte` (R234). -/
def execSubAImm (imm : Byte) (s : State) : Res State := .next (s.aluA .sub imm)

/-- `SUB saddr,#byte` (R234). -/
def execSubSaddrImm (saddr : Byte) (imm : Byte) (s : State) : Res State := s.aluToMem .sub (saddrEA saddr) imm

/-- `SUB A,r` (R234). -/
def execSubAR (r : Reg8) (s : State) : Res State := .next (s.aluA .sub (s.reg r))

/-- `SUB r,A` (R234). -/
def execSubRA (r : Reg8) (s : State) : Res State := .next (s.aluReg .sub r (s.reg .a))

/-- `SUB A,saddr` (R234). -/
def execSubASaddr (saddr : Byte) (s : State) : Res State := s.aluFromMem .sub (saddrEA saddr)

/-- `SUB A,!addr16` (R234). -/
def execSubAAddr16 (addr : Word) (s : State) : Res State := s.aluFromMem .sub addr

/-- `SUB A,[HL]` (R234). -/
def execSubAHl (s : State) : Res State := s.aluFromMem .sub s.hlEA

/-- `SUB A,[HL+byte]` (R234). -/
def execSubAHlByte (disp : Byte) (s : State) : Res State := s.aluFromMem .sub (s.hlByteEA disp)

/-- `SUB A,[HL+B]` (R234). -/
def execSubAHlB (s : State) : Res State := s.aluFromMem .sub s.hlBEA

/-- `SUB A,[HL+C]` (R234). -/
def execSubAHlC (s : State) : Res State := s.aluFromMem .sub s.hlCEA

/-- `SUBC A,#byte` (R235). -/
def execSubcAImm (imm : Byte) (s : State) : Res State := .next (s.aluA .subc imm)

/-- `SUBC saddr,#byte` (R235). -/
def execSubcSaddrImm (saddr : Byte) (imm : Byte) (s : State) : Res State := s.aluToMem .subc (saddrEA saddr) imm

/-- `SUBC A,r` (R235). -/
def execSubcAR (r : Reg8) (s : State) : Res State := .next (s.aluA .subc (s.reg r))

/-- `SUBC r,A` (R235). -/
def execSubcRA (r : Reg8) (s : State) : Res State := .next (s.aluReg .subc r (s.reg .a))

/-- `SUBC A,saddr` (R235). -/
def execSubcASaddr (saddr : Byte) (s : State) : Res State := s.aluFromMem .subc (saddrEA saddr)

/-- `SUBC A,!addr16` (R235). -/
def execSubcAAddr16 (addr : Word) (s : State) : Res State := s.aluFromMem .subc addr

/-- `SUBC A,[HL]` (R235). -/
def execSubcAHl (s : State) : Res State := s.aluFromMem .subc s.hlEA

/-- `SUBC A,[HL+byte]` (R235). -/
def execSubcAHlByte (disp : Byte) (s : State) : Res State := s.aluFromMem .subc (s.hlByteEA disp)

/-- `SUBC A,[HL+B]` (R235). -/
def execSubcAHlB (s : State) : Res State := s.aluFromMem .subc s.hlBEA

/-- `SUBC A,[HL+C]` (R235). -/
def execSubcAHlC (s : State) : Res State := s.aluFromMem .subc s.hlCEA

/-- `AND A,#byte` (R236). -/
def execAndAImm (imm : Byte) (s : State) : Res State := .next (s.aluA .and imm)

/-- `AND saddr,#byte` (R236). -/
def execAndSaddrImm (saddr : Byte) (imm : Byte) (s : State) : Res State := s.aluToMem .and (saddrEA saddr) imm

/-- `AND A,r` (R236). -/
def execAndAR (r : Reg8) (s : State) : Res State := .next (s.aluA .and (s.reg r))

/-- `AND r,A` (R236). -/
def execAndRA (r : Reg8) (s : State) : Res State := .next (s.aluReg .and r (s.reg .a))

/-- `AND A,saddr` (R236). -/
def execAndASaddr (saddr : Byte) (s : State) : Res State := s.aluFromMem .and (saddrEA saddr)

/-- `AND A,!addr16` (R236). -/
def execAndAAddr16 (addr : Word) (s : State) : Res State := s.aluFromMem .and addr

/-- `AND A,[HL]` (R236). -/
def execAndAHl (s : State) : Res State := s.aluFromMem .and s.hlEA

/-- `AND A,[HL+byte]` (R236). -/
def execAndAHlByte (disp : Byte) (s : State) : Res State := s.aluFromMem .and (s.hlByteEA disp)

/-- `AND A,[HL+B]` (R236). -/
def execAndAHlB (s : State) : Res State := s.aluFromMem .and s.hlBEA

/-- `AND A,[HL+C]` (R236). -/
def execAndAHlC (s : State) : Res State := s.aluFromMem .and s.hlCEA

/-- `OR A,#byte` (R237). -/
def execOrAImm (imm : Byte) (s : State) : Res State := .next (s.aluA .or imm)

/-- `OR saddr,#byte` (R237). -/
def execOrSaddrImm (saddr : Byte) (imm : Byte) (s : State) : Res State := s.aluToMem .or (saddrEA saddr) imm

/-- `OR A,r` (R237). -/
def execOrAR (r : Reg8) (s : State) : Res State := .next (s.aluA .or (s.reg r))

/-- `OR r,A` (R237). -/
def execOrRA (r : Reg8) (s : State) : Res State := .next (s.aluReg .or r (s.reg .a))

/-- `OR A,saddr` (R237). -/
def execOrASaddr (saddr : Byte) (s : State) : Res State := s.aluFromMem .or (saddrEA saddr)

/-- `OR A,!addr16` (R237). -/
def execOrAAddr16 (addr : Word) (s : State) : Res State := s.aluFromMem .or addr

/-- `OR A,[HL]` (R237). -/
def execOrAHl (s : State) : Res State := s.aluFromMem .or s.hlEA

/-- `OR A,[HL+byte]` (R237). -/
def execOrAHlByte (disp : Byte) (s : State) : Res State := s.aluFromMem .or (s.hlByteEA disp)

/-- `OR A,[HL+B]` (R237). -/
def execOrAHlB (s : State) : Res State := s.aluFromMem .or s.hlBEA

/-- `OR A,[HL+C]` (R237). -/
def execOrAHlC (s : State) : Res State := s.aluFromMem .or s.hlCEA

/-- `XOR A,#byte` (R238). -/
def execXorAImm (imm : Byte) (s : State) : Res State := .next (s.aluA .xor imm)

/-- `XOR saddr,#byte` (R238). -/
def execXorSaddrImm (saddr : Byte) (imm : Byte) (s : State) : Res State := s.aluToMem .xor (saddrEA saddr) imm

/-- `XOR A,r` (R238). -/
def execXorAR (r : Reg8) (s : State) : Res State := .next (s.aluA .xor (s.reg r))

/-- `XOR r,A` (R238). -/
def execXorRA (r : Reg8) (s : State) : Res State := .next (s.aluReg .xor r (s.reg .a))

/-- `XOR A,saddr` (R238). -/
def execXorASaddr (saddr : Byte) (s : State) : Res State := s.aluFromMem .xor (saddrEA saddr)

/-- `XOR A,!addr16` (R238). -/
def execXorAAddr16 (addr : Word) (s : State) : Res State := s.aluFromMem .xor addr

/-- `XOR A,[HL]` (R238). -/
def execXorAHl (s : State) : Res State := s.aluFromMem .xor s.hlEA

/-- `XOR A,[HL+byte]` (R238). -/
def execXorAHlByte (disp : Byte) (s : State) : Res State := s.aluFromMem .xor (s.hlByteEA disp)

/-- `XOR A,[HL+B]` (R238). -/
def execXorAHlB (s : State) : Res State := s.aluFromMem .xor s.hlBEA

/-- `XOR A,[HL+C]` (R238). -/
def execXorAHlC (s : State) : Res State := s.aluFromMem .xor s.hlCEA

/-- `CMP A,#byte` (R239). -/
def execCmpAImm (imm : Byte) (s : State) : Res State := .next (s.aluA .cmp imm)

/-- `CMP saddr,#byte` (R239). -/
def execCmpSaddrImm (saddr : Byte) (imm : Byte) (s : State) : Res State := s.aluToMem .cmp (saddrEA saddr) imm

/-- `CMP A,r` (R239). -/
def execCmpAR (r : Reg8) (s : State) : Res State := .next (s.aluA .cmp (s.reg r))

/-- `CMP r,A` (R239). -/
def execCmpRA (r : Reg8) (s : State) : Res State := .next (s.aluReg .cmp r (s.reg .a))

/-- `CMP A,saddr` (R239). -/
def execCmpASaddr (saddr : Byte) (s : State) : Res State := s.aluFromMem .cmp (saddrEA saddr)

/-- `CMP A,!addr16` (R239). -/
def execCmpAAddr16 (addr : Word) (s : State) : Res State := s.aluFromMem .cmp addr

/-- `CMP A,[HL]` (R239). -/
def execCmpAHl (s : State) : Res State := s.aluFromMem .cmp s.hlEA

/-- `CMP A,[HL+byte]` (R239). -/
def execCmpAHlByte (disp : Byte) (s : State) : Res State := s.aluFromMem .cmp (s.hlByteEA disp)

/-- `CMP A,[HL+B]` (R239). -/
def execCmpAHlB (s : State) : Res State := s.aluFromMem .cmp s.hlBEA

/-- `CMP A,[HL+C]` (R239). -/
def execCmpAHlC (s : State) : Res State := s.aluFromMem .cmp s.hlCEA

end Sys2Proof.Machine
end

