-- ==== Sys2Proof/Machine/Bit.lean ====
section
/-! DEFINITION. The meanings of the bit manipulation instructions (R285 to R295). -/

namespace Sys2Proof.Machine

/-- `MOV1 CY,saddr.bit` (R286). -/
def execMov1CySaddr (saddr : Byte) (bit : BitNo) (s : State) : Res State :=
  andThen2 (s.loadBit (saddrEA saddr) bit) fun b t => .next (t.putCy b)

/-- `MOV1 CY,sfr.bit` (R286). -/
def execMov1CySfr (sfr : Byte) (bit : BitNo) (s : State) : Res State :=
  andThen2 (s.loadBit (sfrEA sfr) bit) fun b t => .next (t.putCy b)

/-- `MOV1 CY,A.bit` (R286). -/
def execMov1CyA (bit : BitNo) (s : State) : Res State := .next (s.putCy ((s.reg .a).getLsbD bit.val))

/-- `MOV1 CY,PSW.bit` (R286). -/
def execMov1CyPsw (bit : BitNo) (s : State) : Res State := .next (s.putCy (s.psw.getLsbD bit.val)).holding

/-- `MOV1 CY,[HL].bit` (R286). -/
def execMov1CyHl (bit : BitNo) (s : State) : Res State := andThen2 (s.loadBit s.hlEA bit) fun b t => .next (t.putCy b)

/-- `AND1 CY,saddr.bit` (R288). -/
def execAnd1CySaddr (saddr : Byte) (bit : BitNo) (s : State) : Res State :=
  andThen2 (s.loadBit (saddrEA saddr) bit) fun b t => .next (t.putCy (t.cy && b))

/-- `AND1 CY,sfr.bit` (R288). -/
def execAnd1CySfr (sfr : Byte) (bit : BitNo) (s : State) : Res State :=
  andThen2 (s.loadBit (sfrEA sfr) bit) fun b t => .next (t.putCy (t.cy && b))

/-- `AND1 CY,A.bit` (R288). -/
def execAnd1CyA (bit : BitNo) (s : State) : Res State := .next (s.putCy (s.cy && ((s.reg .a).getLsbD bit.val)))

/-- `AND1 CY,PSW.bit` (R288). -/
def execAnd1CyPsw (bit : BitNo) (s : State) : Res State := .next (s.putCy (s.cy && (s.psw.getLsbD bit.val))).holding

/-- `AND1 CY,[HL].bit` (R288). -/
def execAnd1CyHl (bit : BitNo) (s : State) : Res State :=
  andThen2 (s.loadBit s.hlEA bit) fun b t => .next (t.putCy (t.cy && b))

/-- `OR1 CY,saddr.bit` (R289). -/
def execOr1CySaddr (saddr : Byte) (bit : BitNo) (s : State) : Res State :=
  andThen2 (s.loadBit (saddrEA saddr) bit) fun b t => .next (t.putCy (t.cy || b))

/-- `OR1 CY,sfr.bit` (R289). -/
def execOr1CySfr (sfr : Byte) (bit : BitNo) (s : State) : Res State :=
  andThen2 (s.loadBit (sfrEA sfr) bit) fun b t => .next (t.putCy (t.cy || b))

/-- `OR1 CY,A.bit` (R289). -/
def execOr1CyA (bit : BitNo) (s : State) : Res State := .next (s.putCy (s.cy || ((s.reg .a).getLsbD bit.val)))

/-- `OR1 CY,PSW.bit` (R289). -/
def execOr1CyPsw (bit : BitNo) (s : State) : Res State := .next (s.putCy (s.cy || (s.psw.getLsbD bit.val))).holding

/-- `OR1 CY,[HL].bit` (R289). -/
def execOr1CyHl (bit : BitNo) (s : State) : Res State :=
  andThen2 (s.loadBit s.hlEA bit) fun b t => .next (t.putCy (t.cy || b))

/-- `XOR1 CY,saddr.bit` (R290). -/
def execXor1CySaddr (saddr : Byte) (bit : BitNo) (s : State) : Res State :=
  andThen2 (s.loadBit (saddrEA saddr) bit) fun b t => .next (t.putCy (t.cy != b))

/-- `XOR1 CY,sfr.bit` (R290). -/
def execXor1CySfr (sfr : Byte) (bit : BitNo) (s : State) : Res State :=
  andThen2 (s.loadBit (sfrEA sfr) bit) fun b t => .next (t.putCy (t.cy != b))

/-- `XOR1 CY,A.bit` (R290). -/
def execXor1CyA (bit : BitNo) (s : State) : Res State := .next (s.putCy (s.cy != ((s.reg .a).getLsbD bit.val)))

/-- `XOR1 CY,PSW.bit` (R290). -/
def execXor1CyPsw (bit : BitNo) (s : State) : Res State := .next (s.putCy (s.cy != (s.psw.getLsbD bit.val))).holding

/-- `XOR1 CY,[HL].bit` (R290). -/
def execXor1CyHl (bit : BitNo) (s : State) : Res State :=
  andThen2 (s.loadBit s.hlEA bit) fun b t => .next (t.putCy (t.cy != b))

/-- `MOV1 saddr.bit,CY` (R287). -/
def execMov1SaddrCy (saddr : Byte) (bit : BitNo) (s : State) : Res State := s.storeBit (saddrEA saddr) bit s.cy

/-- `MOV1 sfr.bit,CY` (R287). -/
def execMov1SfrCy (sfr : Byte) (bit : BitNo) (s : State) : Res State := s.storeBit (sfrEA sfr) bit s.cy

/-- `MOV1 A.bit,CY` (R287). -/
def execMov1ACy (bit : BitNo) (s : State) : Res State := .next (s.putReg .a (setBit (s.reg .a) bit.val s.cy))

/-- `MOV1 PSW.bit,CY` (R287). -/
def execMov1PswCy (bit : BitNo) (s : State) : Res State := .next (s.putPswBit bit.val s.cy).holding

/-- `MOV1 [HL].bit,CY` (R287). -/
def execMov1HlCy (bit : BitNo) (s : State) : Res State := s.storeBit s.hlEA bit s.cy

/-- `SET1 saddr.bit` (R291). -/
def execSet1Saddr (saddr : Byte) (bit : BitNo) (s : State) : Res State := s.storeBit (saddrEA saddr) bit true

/-- `SET1 sfr.bit` (R291). -/
def execSet1Sfr (sfr : Byte) (bit : BitNo) (s : State) : Res State := s.storeBit (sfrEA sfr) bit true

/-- `SET1 A.bit` (R291). -/
def execSet1A (bit : BitNo) (s : State) : Res State := .next (s.putReg .a (setBit (s.reg .a) bit.val true))

/-- `SET1 PSW.bit` (R291). -/
def execSet1Psw (bit : BitNo) (s : State) : Res State := .next (s.putPswBit bit.val true).holding

/-- `SET1 [HL].bit` (R291). -/
def execSet1Hl (bit : BitNo) (s : State) : Res State := s.storeBit s.hlEA bit true

/-- `CLR1 saddr.bit` (R292). -/
def execClr1Saddr (saddr : Byte) (bit : BitNo) (s : State) : Res State := s.storeBit (saddrEA saddr) bit false

/-- `CLR1 sfr.bit` (R292). -/
def execClr1Sfr (sfr : Byte) (bit : BitNo) (s : State) : Res State := s.storeBit (sfrEA sfr) bit false

/-- `CLR1 A.bit` (R292). -/
def execClr1A (bit : BitNo) (s : State) : Res State := .next (s.putReg .a (setBit (s.reg .a) bit.val false))

/-- `CLR1 PSW.bit` (R292). -/
def execClr1Psw (bit : BitNo) (s : State) : Res State := .next (s.putPswBit bit.val false).holding

/-- `CLR1 [HL].bit` (R292). -/
def execClr1Hl (bit : BitNo) (s : State) : Res State := s.storeBit s.hlEA bit false

/-- `SET1 CY` (R293). -/
def execSet1Cy (s : State) : Res State := .next (s.putCy true)

/-- `CLR1 CY` (R294). -/
def execClr1Cy (s : State) : Res State := .next (s.putCy false)

/-- `NOT1 CY` (R295). -/
def execNot1Cy (s : State) : Res State := .next (s.putCy (!s.cy))

end Sys2Proof.Machine
end

