-- ==== Sys2Proof/Machine/Branch.lean ====
section
/-! DEFINITION. The meanings of the branches (R380 to R390). While an instruction executes, PC is `next`, the address of
the byte after it. -/

namespace Sys2Proof.Machine

/-- `BR !addr16` (R380). -/
def execBrAddr16 (addr : Word) (s : State) : Res State := .next { s with pc := addr }

/-- `BR $addr16` (R381). -/
def execBrRel (disp : Byte) (s : State) : Res State := .next (s.branch disp)

/-- `BR AX` (R382). -/
def execBrAx (s : State) : Res State := .next { s with pc := s.pair .ax }

/-- `BC $addr16` (R383). -/
def execBcRel (disp : Byte) (s : State) : Res State := .next (s.branchIf s.cy disp)

/-- `BNC $addr16` (R384). -/
def execBncRel (disp : Byte) (s : State) : Res State := .next (s.branchIf (!s.cy) disp)

/-- `BZ $addr16` (R385). -/
def execBzRel (disp : Byte) (s : State) : Res State := .next (s.branchIf s.zero disp)

/-- `BNZ $addr16` (R386). -/
def execBnzRel (disp : Byte) (s : State) : Res State := .next (s.branchIf (!s.zero) disp)

/-- `BT saddr.bit,$addr16` (R387). -/
def execBtSaddr (saddr : Byte) (bit : BitNo) (disp : Byte) (s : State) : Res State :=
  andThen2 (s.loadBit (saddrEA saddr) bit) fun b t => .next (t.branchIf b disp)

/-- `BT sfr.bit,$addr16` (R387). -/
def execBtSfr (sfr : Byte) (bit : BitNo) (disp : Byte) (s : State) : Res State :=
  andThen2 (s.loadBit (sfrEA sfr) bit) fun b t => .next (t.branchIf b disp)

/-- `BT A.bit,$addr16` (R387). -/
def execBtA (bit : BitNo) (disp : Byte) (s : State) : Res State := .next (s.branchIf ((s.reg .a).getLsbD bit.val) disp)

/-- `BT PSW.bit,$addr16` (R387). -/
def execBtPsw (bit : BitNo) (disp : Byte) (s : State) : Res State :=
  .next (s.branchIf (s.psw.getLsbD bit.val) disp).holding

/-- `BT [HL].bit,$addr16` (R387). -/
def execBtHl (bit : BitNo) (disp : Byte) (s : State) : Res State :=
  andThen2 (s.loadBit s.hlEA bit) fun b t => .next (t.branchIf b disp)

/-- `BF saddr.bit,$addr16` (R388). -/
def execBfSaddr (saddr : Byte) (bit : BitNo) (disp : Byte) (s : State) : Res State :=
  andThen2 (s.loadBit (saddrEA saddr) bit) fun b t => .next (t.branchIf (!b) disp)

/-- `BF sfr.bit,$addr16` (R388). -/
def execBfSfr (sfr : Byte) (bit : BitNo) (disp : Byte) (s : State) : Res State :=
  andThen2 (s.loadBit (sfrEA sfr) bit) fun b t => .next (t.branchIf (!b) disp)

/-- `BF A.bit,$addr16` (R388). -/
def execBfA (bit : BitNo) (disp : Byte) (s : State) : Res State := .next (s.branchIf (!(s.reg .a).getLsbD bit.val) disp)

/-- `BF PSW.bit,$addr16` (R388). -/
def execBfPsw (bit : BitNo) (disp : Byte) (s : State) : Res State :=
  .next (s.branchIf (!s.psw.getLsbD bit.val) disp).holding

/-- `BF [HL].bit,$addr16` (R388). -/
def execBfHl (bit : BitNo) (disp : Byte) (s : State) : Res State :=
  andThen2 (s.loadBit s.hlEA bit) fun b t => .next (t.branchIf (!b) disp)

/-- `BTCLR saddr.bit,$addr16` (R389). -/
def execBtclrSaddr (saddr : Byte) (bit : BitNo) (disp : Byte) (s : State) : Res State :=
  andThen2 (s.testClear (saddrEA saddr) bit) fun b t => .next (t.branchIf b disp)

/-- `BTCLR sfr.bit,$addr16` (R389). -/
def execBtclrSfr (sfr : Byte) (bit : BitNo) (disp : Byte) (s : State) : Res State :=
  andThen2 (s.testClear (sfrEA sfr) bit) fun b t => .next (t.branchIf b disp)

/-- `BTCLR A.bit,$addr16` (R389). -/
def execBtclrA (bit : BitNo) (disp : Byte) (s : State) : Res State :=
  .next (if (s.reg .a).getLsbD bit.val then (s.putReg .a (setBit (s.reg .a) bit.val false)).branch disp else s)

/-- `BTCLR PSW.bit,$addr16` (R389). -/
def execBtclrPsw (bit : BitNo) (disp : Byte) (s : State) : Res State :=
  .next (if s.psw.getLsbD bit.val then (s.putPswBit bit.val false).branch disp else s).holding

/-- `BTCLR [HL].bit,$addr16` (R389). -/
def execBtclrHl (bit : BitNo) (disp : Byte) (s : State) : Res State :=
  andThen2 (s.testClear s.hlEA bit) fun b t => .next (t.branchIf b disp)

/-- `DBNZ B,$addr16` (R390). -/
def execDbnzB (disp : Byte) (s : State) : Res State :=
  .next ((s.putReg .b (s.reg .b - 1)).branchIf (s.reg .b - 1 != 0) disp)

/-- `DBNZ C,$addr16` (R390). -/
def execDbnzC (disp : Byte) (s : State) : Res State :=
  .next ((s.putReg .c (s.reg .c - 1)).branchIf (s.reg .c - 1 != 0) disp)

/-- `DBNZ saddr,$addr16` (R390). -/
def execDbnzSaddr (saddr : Byte) (disp : Byte) (s : State) : Res State :=
  andThen2 (s.modify .byte (saddrEA saddr) fun v => some (v - 1)) fun v u => .next (u.branchIf (v - 1 != 0) disp)

end Sys2Proof.Machine
end

