-- ==== Sys2Proof/Machine/CallReturn.lean ====
section
/-! DEFINITION. The meanings of the call and return instructions (R360 to R366). -/

namespace Sys2Proof.Machine

/-- `CALL !addr16` (R360). -/
def execCall (addr : Word) (s : State) : Res State := s.callTo addr

/-- `CALLF !addr11` (R361). -/
def execCallf (page : BitNo) (low : Byte) (s : State) : Res State := s.callTo (callfTarget page low)

/-- `CALLT [addr5]` (R362). -/
def execCallt (entry : Fin 32) (s : State) : Res State := s.callTo (s.tableWord (calltEntry entry))

/-- `BRK` (R363). -/
def execBrk (s : State) : Res State := s.enter 0x003E none

/-- `RET` (R364). -/
def execRet (s : State) : Res State := andThen2 s.popWord fun w t => .next { t with pc := w }

/-- `RETI` (R365). -/
def execReti (s : State) : Res State := andThen s.leave fun t => .next t.holding

/-- `RETB` (R366). -/
def execRetb (s : State) : Res State := andThen s.leave fun t => .next t.holding

end Sys2Proof.Machine
end

