-- ==== Sys2Proof/Machine/Control.lean ====
section
/-! DEFINITION. The meanings of the CPU control instructions (R392 to R397). -/

namespace Sys2Proof.Machine

/-- `SEL RBn` (R392). -/
def execSel (bank : Fin 4) (s : State) : Res State :=
  .next ((s.putPswBit 5 (decide (2 ≤ bank.val))).putPswBit 3 (decide (bank.val % 2 = 1)))

/-- `NOP` (R393). -/
def execNop (s : State) : Res State := .next s

/-- `EI` (R394). -/
def execEi (s : State) : Res State := .next (s.putPswBit 7 true).holding

/-- `DI` (R395). -/
def execDi (s : State) : Res State := .next (s.putPswBit 7 false).holding

/-- `HALT` (R396). -/
def execHalt (s : State) : Res State := .next { s with dev := s.dev.enterHalt }

/-- `STOP` (R397). RSTS is not looked at, though R849 and R963 want it to be 1: DESIGN CHOICE, unsafe (log entry 53). -/
def execStop (s : State) : Res State :=
  if s.dev.clock.cls then .refused .stopOnSubclock else .next { s with dev := s.dev.enterStop }

end Sys2Proof.Machine
end

