-- ==== Sys2Proof/Machine/Rotate.lean ====
section
/-! DEFINITION. The meanings of the rotate and decimal adjust instructions (R270 to R277). -/

namespace Sys2Proof.Machine

/-- A byte shifted right with a bit entering at bit 7. -/
def rotateRight (a : Byte) (b : Bool) : Byte := setBit (a >>> 1) 7 b

/-- A byte shifted left with a bit entering at bit 0. -/
def rotateLeft (a : Byte) (b : Bool) : Byte := setBit (a <<< 1) 0 b

/-- A digit rotate: `f` gives the new memory byte from A and the memory byte before, `g` the new A from A before the write, A as
the write has left it, which differs where HL addresses A itself (R21), and the memory byte before (R274, R275). -/
def State.rotateDigits (s : State) (f : Byte → Byte → Byte) (g : Byte → Byte → Byte → Byte) : Res State :=
  andThen2 (s.modify .byte s.hlEA fun m => some (f (s.reg .a) m)) fun m u =>
    .next (u.putRegOf s.psw .a (g (s.reg .a) (u.mem.get (regAddr s.psw .a)) m))

/-- A decimal adjustment: A and the flags (R276, R277). -/
def State.adjustA (s : State) (o : AluOut) : State := (s.putReg .a o.value).putFlags o

/-- `ROR A,1` (R270). -/
def execRorA (s : State) : Res State :=
  .next ((s.putReg .a (rotateRight (s.reg .a) ((s.reg .a).getLsbD 0))).putCy ((s.reg .a).getLsbD 0))

/-- `ROL A,1` (R271). -/
def execRolA (s : State) : Res State :=
  .next ((s.putReg .a (rotateLeft (s.reg .a) ((s.reg .a).getLsbD 7))).putCy ((s.reg .a).getLsbD 7))

/-- `RORC A,1` (R272). -/
def execRorcA (s : State) : Res State :=
  .next ((s.putReg .a (rotateRight (s.reg .a) s.cy)).putCy ((s.reg .a).getLsbD 0))

/-- `ROLC A,1` (R273). -/
def execRolcA (s : State) : Res State := .next ((s.putReg .a (rotateLeft (s.reg .a) s.cy)).putCy ((s.reg .a).getLsbD 7))

/-- `ROR4 [HL]` (R274): the high digit of A is unchanged. -/
def execRor4Hl (s : State) : Res State :=
  s.rotateDigits (fun a m => (a <<< 4) ||| (m >>> 4)) fun a _ m => (a &&& 0xF0) ||| (m &&& 0x0F)

/-- `ROL4 [HL]` (R275): the high digit of A is the one after the write, in the order of the rule. -/
def execRol4Hl (s : State) : Res State :=
  s.rotateDigits (fun a m => (m <<< 4) ||| (a &&& 0x0F)) fun _ a m => (a &&& 0xF0) ||| (m >>> 4)

/-- `ADJBA` (R276). -/
def execAdjba (s : State) : Res State := .next (s.adjustA (adjustAdd (s.reg .a) s.ac s.cy))

/-- `ADJBS` (R277). -/
def execAdjbs (s : State) : Res State := .next (s.adjustA (adjustSub (s.reg .a) s.ac s.cy))

end Sys2Proof.Machine
end

