-- ==== Sys2Proof/Machine/Stack.lean ====
section
/-! DEFINITION. The meanings of the stack manipulation instructions (R370 to R377). -/

namespace Sys2Proof.Machine

/-- `PUSH PSW` (R370). -/
def execPushPsw (s : State) : Res State := andThen (s.push [s.psw]) fun t => .next t.holding

/-- `PUSH rp` (R371): the low register is read after the high one is stored, so that a stack which runs into the register
bank pushes what it has just stored (R145). -/
def execPushRp (rp : RegPair) (s : State) : Res State :=
  andThen (s.store .byte (s.sp - 1) (s.reg (highReg rp))) fun t =>
    andThen (t.store .byte (s.sp - 2) (t.reg (lowReg rp))) fun u => .next { u with sp := s.sp - 2 }

/-- `POP PSW` (R372). -/
def execPopPsw (s : State) : Res State := andThen2 s.popByte fun v t => .next (t.putPsw v).holding

/-- `POP rp` (R373): the high register is written before the low byte is read (R145). -/
def execPopRp (rp : RegPair) (s : State) : Res State :=
  andThen2 (s.load .byte (s.sp + 1)) fun h t =>
    andThen2 ((t.putReg (highReg rp) h).load .byte s.sp) fun l u =>
      .next { u.putReg (lowReg rp) l with sp := s.sp + 2 }

/-- `MOVW SP,#word` (R375). -/
def execMovwSpImm (word : Word) (s : State) : Res State := .next { s with sp := word }

/-- `MOVW SP,AX` (R376). -/
def execMovwSpAx (s : State) : Res State := .next { s with sp := s.pair .ax }

/-- `MOVW AX,SP` (R377). -/
def execMovwAxSp (s : State) : Res State := .next (s.putPair .ax s.sp)

end Sys2Proof.Machine
end

