-- ==== Sys2Proof/Machine/Transfer16.lean ====
section
/-! DEFINITION. The meanings of the 16-bit data transfer instructions MOVW and XCHW (R221 to R227). -/

namespace Sys2Proof.Machine

/-- `AX <- MemRead(EA, 2)` (R223, R224, R226). -/
def State.loadAx (s : State) (ea : Word) : Res State := andThen2 (s.loadWord ea) fun w t => .next (t.putPair .ax w)

/-- `MOVW rp,#word` (R221). -/
def execMovwRpImm (rp : RegPair) (word : Word) (s : State) : Res State := .next (s.putPair rp word)

/-- `MOVW saddrp,#word` (R222). -/
def execMovwSaddrpImm (saddr : Byte) (word : Word) (s : State) : Res State := s.storeWord (saddrEA saddr) word

/-- `MOVW sfrp,#word` (R222). -/
def execMovwSfrpImm (sfr : Byte) (word : Word) (s : State) : Res State := s.storeWord (sfrEA sfr) word

/-- `MOVW AX,saddrp` (R223). -/
def execMovwAxSaddrp (saddr : Byte) (s : State) : Res State := s.loadAx (saddrEA saddr)

/-- `MOVW saddrp,AX` (R223). -/
def execMovwSaddrpAx (saddr : Byte) (s : State) : Res State := s.storeWord (saddrEA saddr) (s.pair .ax)

/-- `MOVW AX,sfrp` (R224). -/
def execMovwAxSfrp (sfr : Byte) (s : State) : Res State := s.loadAx (sfrEA sfr)

/-- `MOVW sfrp,AX` (R224). -/
def execMovwSfrpAx (sfr : Byte) (s : State) : Res State := s.storeWord (sfrEA sfr) (s.pair .ax)

/-- `MOVW AX,rp` (R225). -/
def execMovwAxRp (rp : RegPair) (s : State) : Res State := .next (s.putPair .ax (s.pair rp))

/-- `MOVW rp,AX` (R225). -/
def execMovwRpAx (rp : RegPair) (s : State) : Res State := .next (s.putPair rp (s.pair .ax))

/-- `MOVW AX,!addr16` (R226). -/
def execMovwAxAddr16 (addr : Word) (s : State) : Res State := s.loadAx addr

/-- `MOVW !addr16,AX` (R226). -/
def execMovwAddr16Ax (addr : Word) (s : State) : Res State := s.storeWord addr (s.pair .ax)

/-- `XCHW AX,rp` (R227). -/
def execXchwAxRp (rp : RegPair) (s : State) : Res State := .next ((s.putPair .ax (s.pair rp)).putPair rp (s.pair .ax))

end Sys2Proof.Machine
end

