-- ==== Sys2Proof/Machine/Transfer8.lean ====
section
/-! DEFINITION. The meanings of the 8-bit data transfer instructions MOV and XCH (R201 to R214). -/

namespace Sys2Proof.Machine

/-- `A <- MemRead(EA, 1)` (R205 to R211). -/
def State.loadA (s : State) (ea : Word) : Res State := andThen2 (s.load .byte ea) fun v t => .next (t.putReg .a v)

/-- `MemWrite(EA, 1, A)` (R205 to R211). -/
def State.storeA (s : State) (ea : Word) : Res State := s.store .byte ea (s.reg .a)

/-- `t <- MemRead(EA, 1); MemWrite(EA, 1, A); A <- t` (R213, R214). A is that of the bank selected at the start, also where
the memory operand is PSW. -/
def State.exchangeA (s : State) (ea : Word) : Res State :=
  andThen2 (s.modify .byte ea fun _ => some (s.reg .a)) fun v u => .next (u.putRegOf s.psw .a v)

/-- `MOV r,#byte` (R201). -/
def execMovRImm (r : Reg8) (imm : Byte) (s : State) : Res State := .next (s.putReg r imm)

/-- `MOV saddr,#byte` (R202). -/
def execMovSaddrImm (saddr : Byte) (imm : Byte) (s : State) : Res State := s.store .byte (saddrEA saddr) imm

/-- `MOV sfr,#byte` (R203). -/
def execMovSfrImm (sfr : Byte) (imm : Byte) (s : State) : Res State := s.store .byte (sfrEA sfr) imm

/-- `MOV A,r` (R204). -/
def execMovAR (r : Reg8) (s : State) : Res State := .next (s.putReg .a (s.reg r))

/-- `MOV r,A` (R204). -/
def execMovRA (r : Reg8) (s : State) : Res State := .next (s.putReg r (s.reg .a))

/-- `MOV A,saddr` (R205). -/
def execMovASaddr (saddr : Byte) (s : State) : Res State := s.loadA (saddrEA saddr)

/-- `MOV saddr,A` (R205). -/
def execMovSaddrA (saddr : Byte) (s : State) : Res State := s.storeA (saddrEA saddr)

/-- `MOV A,sfr` (R206). -/
def execMovASfr (sfr : Byte) (s : State) : Res State := s.loadA (sfrEA sfr)

/-- `MOV sfr,A` (R206). -/
def execMovSfrA (sfr : Byte) (s : State) : Res State := s.storeA (sfrEA sfr)

/-- `MOV A,!addr16` (R207). -/
def execMovAAddr16 (addr : Word) (s : State) : Res State := s.loadA addr

/-- `MOV !addr16,A` (R207). -/
def execMovAddr16A (addr : Word) (s : State) : Res State := s.storeA addr

/-- `MOV PSW,#byte` (R208). -/
def execMovPswImm (imm : Byte) (s : State) : Res State := .next (s.putPsw imm).holding

/-- `MOV A,PSW` (R208). -/
def execMovAPsw (s : State) : Res State := .next (s.putReg .a s.psw).holding

/-- `MOV PSW,A` (R208). -/
def execMovPswA (s : State) : Res State := .next (s.putPsw (s.reg .a)).holding

/-- `MOV A,[DE]` (R209). -/
def execMovADe (s : State) : Res State := s.loadA s.deEA

/-- `MOV [DE],A` (R209). -/
def execMovDeA (s : State) : Res State := s.storeA s.deEA

/-- `MOV A,[HL]` (R209). -/
def execMovAHl (s : State) : Res State := s.loadA s.hlEA

/-- `MOV [HL],A` (R209). -/
def execMovHlA (s : State) : Res State := s.storeA s.hlEA

/-- `MOV A,[HL+byte]` (R210). -/
def execMovAHlByte (disp : Byte) (s : State) : Res State := s.loadA (s.hlByteEA disp)

/-- `MOV [HL+byte],A` (R210). -/
def execMovHlByteA (disp : Byte) (s : State) : Res State := s.storeA (s.hlByteEA disp)

/-- `MOV A,[HL+B]` (R211). -/
def execMovAHlB (s : State) : Res State := s.loadA s.hlBEA

/-- `MOV [HL+B],A` (R211). -/
def execMovHlBA (s : State) : Res State := s.storeA s.hlBEA

/-- `MOV A,[HL+C]` (R211). -/
def execMovAHlC (s : State) : Res State := s.loadA s.hlCEA

/-- `MOV [HL+C],A` (R211). -/
def execMovHlCA (s : State) : Res State := s.storeA s.hlCEA

/-- `XCH A,r` (R212). -/
def execXchAR (r : Reg8) (s : State) : Res State := .next ((s.putReg .a (s.reg r)).putReg r (s.reg .a))

/-- `XCH A,saddr` (R213). -/
def execXchASaddr (saddr : Byte) (s : State) : Res State := s.exchangeA (saddrEA saddr)

/-- `XCH A,sfr` (R213). -/
def execXchASfr (sfr : Byte) (s : State) : Res State := s.exchangeA (sfrEA sfr)

/-- `XCH A,!addr16` (R213). -/
def execXchAAddr16 (addr : Word) (s : State) : Res State := s.exchangeA addr

/-- `XCH A,[DE]` (R214). -/
def execXchADe (s : State) : Res State := s.exchangeA s.deEA

/-- `XCH A,[HL]` (R214). -/
def execXchAHl (s : State) : Res State := s.exchangeA s.hlEA

/-- `XCH A,[HL+byte]` (R214). -/
def execXchAHlByte (disp : Byte) (s : State) : Res State := s.exchangeA (s.hlByteEA disp)

/-- `XCH A,[HL+B]` (R214). -/
def execXchAHlB (s : State) : Res State := s.exchangeA s.hlBEA

/-- `XCH A,[HL+C]` (R214). -/
def execXchAHlC (s : State) : Res State := s.exchangeA s.hlCEA

end Sys2Proof.Machine
end

