-- ==== Sys2Proof/Machine/Dispatch.lean ====
section
/-! DEFINITION. The meaning of every instruction, one arm each. -/

namespace Sys2Proof.Machine

/-- What an instruction does. PC already names the byte after the instruction. -/
def exec (i : Instr) (s : State) : Host.Outcome State Fault Refusal :=
  match i with
  | .movRImm r imm => Sys2Proof.Machine.execMovRImm r imm s
  | .movSaddrImm saddr imm => Sys2Proof.Machine.execMovSaddrImm saddr imm s
  | .movSfrImm sfr imm => Sys2Proof.Machine.execMovSfrImm sfr imm s
  | .movAR r => Sys2Proof.Machine.execMovAR r s
  | .movRA r => Sys2Proof.Machine.execMovRA r s
  | .movASaddr saddr => Sys2Proof.Machine.execMovASaddr saddr s
  | .movSaddrA saddr => Sys2Proof.Machine.execMovSaddrA saddr s
  | .movASfr sfr => Sys2Proof.Machine.execMovASfr sfr s
  | .movSfrA sfr => Sys2Proof.Machine.execMovSfrA sfr s
  | .movAAddr16 addr => Sys2Proof.Machine.execMovAAddr16 addr s
  | .movAddr16A addr => Sys2Proof.Machine.execMovAddr16A addr s
  | .movPswImm imm => Sys2Proof.Machine.execMovPswImm imm s
  | .movAPsw => Sys2Proof.Machine.execMovAPsw s
  | .movPswA => Sys2Proof.Machine.execMovPswA s
  | .movADe => Sys2Proof.Machine.execMovADe s
  | .movDeA => Sys2Proof.Machine.execMovDeA s
  | .movAHl => Sys2Proof.Machine.execMovAHl s
  | .movHlA => Sys2Proof.Machine.execMovHlA s
  | .movAHlByte disp => Sys2Proof.Machine.execMovAHlByte disp s
  | .movHlByteA disp => Sys2Proof.Machine.execMovHlByteA disp s
  | .movAHlB => Sys2Proof.Machine.execMovAHlB s
  | .movHlBA => Sys2Proof.Machine.execMovHlBA s
  | .movAHlC => Sys2Proof.Machine.execMovAHlC s
  | .movHlCA => Sys2Proof.Machine.execMovHlCA s
  | .xchAR r => Sys2Proof.Machine.execXchAR r s
  | .xchASaddr saddr => Sys2Proof.Machine.execXchASaddr saddr s
  | .xchASfr sfr => Sys2Proof.Machine.execXchASfr sfr s
  | .xchAAddr16 addr => Sys2Proof.Machine.execXchAAddr16 addr s
  | .xchADe => Sys2Proof.Machine.execXchADe s
  | .xchAHl => Sys2Proof.Machine.execXchAHl s
  | .xchAHlByte disp => Sys2Proof.Machine.execXchAHlByte disp s
  | .xchAHlB => Sys2Proof.Machine.execXchAHlB s
  | .xchAHlC => Sys2Proof.Machine.execXchAHlC s
  | .movwRpImm rp word => Sys2Proof.Machine.execMovwRpImm rp word s
  | .movwSaddrpImm saddr word => Sys2Proof.Machine.execMovwSaddrpImm saddr word s
  | .movwSfrpImm sfr word => Sys2Proof.Machine.execMovwSfrpImm sfr word s
  | .movwAxSaddrp saddr => Sys2Proof.Machine.execMovwAxSaddrp saddr s
  | .movwSaddrpAx saddr => Sys2Proof.Machine.execMovwSaddrpAx saddr s
  | .movwAxSfrp sfr => Sys2Proof.Machine.execMovwAxSfrp sfr s
  | .movwSfrpAx sfr => Sys2Proof.Machine.execMovwSfrpAx sfr s
  | .movwAxRp rp => Sys2Proof.Machine.execMovwAxRp rp s
  | .movwRpAx rp => Sys2Proof.Machine.execMovwRpAx rp s
  | .movwAxAddr16 addr => Sys2Proof.Machine.execMovwAxAddr16 addr s
  | .movwAddr16Ax addr => Sys2Proof.Machine.execMovwAddr16Ax addr s
  | .xchwAxRp rp => Sys2Proof.Machine.execXchwAxRp rp s
  | .addAImm imm => Sys2Proof.Machine.execAddAImm imm s
  | .addSaddrImm saddr imm => Sys2Proof.Machine.execAddSaddrImm saddr imm s
  | .addAR r => Sys2Proof.Machine.execAddAR r s
  | .addRA r => Sys2Proof.Machine.execAddRA r s
  | .addASaddr saddr => Sys2Proof.Machine.execAddASaddr saddr s
  | .addAAddr16 addr => Sys2Proof.Machine.execAddAAddr16 addr s
  | .addAHl => Sys2Proof.Machine.execAddAHl s
  | .addAHlByte disp => Sys2Proof.Machine.execAddAHlByte disp s
  | .addAHlB => Sys2Proof.Machine.execAddAHlB s
  | .addAHlC => Sys2Proof.Machine.execAddAHlC s
  | .addcAImm imm => Sys2Proof.Machine.execAddcAImm imm s
  | .addcSaddrImm saddr imm => Sys2Proof.Machine.execAddcSaddrImm saddr imm s
  | .addcAR r => Sys2Proof.Machine.execAddcAR r s
  | .addcRA r => Sys2Proof.Machine.execAddcRA r s
  | .addcASaddr saddr => Sys2Proof.Machine.execAddcASaddr saddr s
  | .addcAAddr16 addr => Sys2Proof.Machine.execAddcAAddr16 addr s
  | .addcAHl => Sys2Proof.Machine.execAddcAHl s
  | .addcAHlByte disp => Sys2Proof.Machine.execAddcAHlByte disp s
  | .addcAHlB => Sys2Proof.Machine.execAddcAHlB s
  | .addcAHlC => Sys2Proof.Machine.execAddcAHlC s
  | .subAImm imm => Sys2Proof.Machine.execSubAImm imm s
  | .subSaddrImm saddr imm => Sys2Proof.Machine.execSubSaddrImm saddr imm s
  | .subAR r => Sys2Proof.Machine.execSubAR r s
  | .subRA r => Sys2Proof.Machine.execSubRA r s
  | .subASaddr saddr => Sys2Proof.Machine.execSubASaddr saddr s
  | .subAAddr16 addr => Sys2Proof.Machine.execSubAAddr16 addr s
  | .subAHl => Sys2Proof.Machine.execSubAHl s
  | .subAHlByte disp => Sys2Proof.Machine.execSubAHlByte disp s
  | .subAHlB => Sys2Proof.Machine.execSubAHlB s
  | .subAHlC => Sys2Proof.Machine.execSubAHlC s
  | .subcAImm imm => Sys2Proof.Machine.execSubcAImm imm s
  | .subcSaddrImm saddr imm => Sys2Proof.Machine.execSubcSaddrImm saddr imm s
  | .subcAR r => Sys2Proof.Machine.execSubcAR r s
  | .subcRA r => Sys2Proof.Machine.execSubcRA r s
  | .subcASaddr saddr => Sys2Proof.Machine.execSubcASaddr saddr s
  | .subcAAddr16 addr => Sys2Proof.Machine.execSubcAAddr16 addr s
  | .subcAHl => Sys2Proof.Machine.execSubcAHl s
  | .subcAHlByte disp => Sys2Proof.Machine.execSubcAHlByte disp s
  | .subcAHlB => Sys2Proof.Machine.execSubcAHlB s
  | .subcAHlC => Sys2Proof.Machine.execSubcAHlC s
  | .andAImm imm => Sys2Proof.Machine.execAndAImm imm s
  | .andSaddrImm saddr imm => Sys2Proof.Machine.execAndSaddrImm saddr imm s
  | .andAR r => Sys2Proof.Machine.execAndAR r s
  | .andRA r => Sys2Proof.Machine.execAndRA r s
  | .andASaddr saddr => Sys2Proof.Machine.execAndASaddr saddr s
  | .andAAddr16 addr => Sys2Proof.Machine.execAndAAddr16 addr s
  | .andAHl => Sys2Proof.Machine.execAndAHl s
  | .andAHlByte disp => Sys2Proof.Machine.execAndAHlByte disp s
  | .andAHlB => Sys2Proof.Machine.execAndAHlB s
  | .andAHlC => Sys2Proof.Machine.execAndAHlC s
  | .orAImm imm => Sys2Proof.Machine.execOrAImm imm s
  | .orSaddrImm saddr imm => Sys2Proof.Machine.execOrSaddrImm saddr imm s
  | .orAR r => Sys2Proof.Machine.execOrAR r s
  | .orRA r => Sys2Proof.Machine.execOrRA r s
  | .orASaddr saddr => Sys2Proof.Machine.execOrASaddr saddr s
  | .orAAddr16 addr => Sys2Proof.Machine.execOrAAddr16 addr s
  | .orAHl => Sys2Proof.Machine.execOrAHl s
  | .orAHlByte disp => Sys2Proof.Machine.execOrAHlByte disp s
  | .orAHlB => Sys2Proof.Machine.execOrAHlB s
  | .orAHlC => Sys2Proof.Machine.execOrAHlC s
  | .xorAImm imm => Sys2Proof.Machine.execXorAImm imm s
  | .xorSaddrImm saddr imm => Sys2Proof.Machine.execXorSaddrImm saddr imm s
  | .xorAR r => Sys2Proof.Machine.execXorAR r s
  | .xorRA r => Sys2Proof.Machine.execXorRA r s
  | .xorASaddr saddr => Sys2Proof.Machine.execXorASaddr saddr s
  | .xorAAddr16 addr => Sys2Proof.Machine.execXorAAddr16 addr s
  | .xorAHl => Sys2Proof.Machine.execXorAHl s
  | .xorAHlByte disp => Sys2Proof.Machine.execXorAHlByte disp s
  | .xorAHlB => Sys2Proof.Machine.execXorAHlB s
  | .xorAHlC => Sys2Proof.Machine.execXorAHlC s
  | .cmpAImm imm => Sys2Proof.Machine.execCmpAImm imm s
  | .cmpSaddrImm saddr imm => Sys2Proof.Machine.execCmpSaddrImm saddr imm s
  | .cmpAR r => Sys2Proof.Machine.execCmpAR r s
  | .cmpRA r => Sys2Proof.Machine.execCmpRA r s
  | .cmpASaddr saddr => Sys2Proof.Machine.execCmpASaddr saddr s
  | .cmpAAddr16 addr => Sys2Proof.Machine.execCmpAAddr16 addr s
  | .cmpAHl => Sys2Proof.Machine.execCmpAHl s
  | .cmpAHlByte disp => Sys2Proof.Machine.execCmpAHlByte disp s
  | .cmpAHlB => Sys2Proof.Machine.execCmpAHlB s
  | .cmpAHlC => Sys2Proof.Machine.execCmpAHlC s
  | .addwAxImm word => Sys2Proof.Machine.execAddwAxImm word s
  | .subwAxImm word => Sys2Proof.Machine.execSubwAxImm word s
  | .cmpwAxImm word => Sys2Proof.Machine.execCmpwAxImm word s
  | .mulu => Sys2Proof.Machine.execMulu s
  | .divuw => Sys2Proof.Machine.execDivuw s
  | .incR r => Sys2Proof.Machine.execIncR r s
  | .incSaddr saddr => Sys2Proof.Machine.execIncSaddr saddr s
  | .decR r => Sys2Proof.Machine.execDecR r s
  | .decSaddr saddr => Sys2Proof.Machine.execDecSaddr saddr s
  | .incwRp rp => Sys2Proof.Machine.execIncwRp rp s
  | .decwRp rp => Sys2Proof.Machine.execDecwRp rp s
  | .rorA => Sys2Proof.Machine.execRorA s
  | .rolA => Sys2Proof.Machine.execRolA s
  | .rorcA => Sys2Proof.Machine.execRorcA s
  | .rolcA => Sys2Proof.Machine.execRolcA s
  | .ror4Hl => Sys2Proof.Machine.execRor4Hl s
  | .rol4Hl => Sys2Proof.Machine.execRol4Hl s
  | .adjba => Sys2Proof.Machine.execAdjba s
  | .adjbs => Sys2Proof.Machine.execAdjbs s
  | .mov1CySaddr saddr bit => Sys2Proof.Machine.execMov1CySaddr saddr bit s
  | .mov1CySfr sfr bit => Sys2Proof.Machine.execMov1CySfr sfr bit s
  | .mov1CyA bit => Sys2Proof.Machine.execMov1CyA bit s
  | .mov1CyPsw bit => Sys2Proof.Machine.execMov1CyPsw bit s
  | .mov1CyHl bit => Sys2Proof.Machine.execMov1CyHl bit s
  | .and1CySaddr saddr bit => Sys2Proof.Machine.execAnd1CySaddr saddr bit s
  | .and1CySfr sfr bit => Sys2Proof.Machine.execAnd1CySfr sfr bit s
  | .and1CyA bit => Sys2Proof.Machine.execAnd1CyA bit s
  | .and1CyPsw bit => Sys2Proof.Machine.execAnd1CyPsw bit s
  | .and1CyHl bit => Sys2Proof.Machine.execAnd1CyHl bit s
  | .or1CySaddr saddr bit => Sys2Proof.Machine.execOr1CySaddr saddr bit s
  | .or1CySfr sfr bit => Sys2Proof.Machine.execOr1CySfr sfr bit s
  | .or1CyA bit => Sys2Proof.Machine.execOr1CyA bit s
  | .or1CyPsw bit => Sys2Proof.Machine.execOr1CyPsw bit s
  | .or1CyHl bit => Sys2Proof.Machine.execOr1CyHl bit s
  | .xor1CySaddr saddr bit => Sys2Proof.Machine.execXor1CySaddr saddr bit s
  | .xor1CySfr sfr bit => Sys2Proof.Machine.execXor1CySfr sfr bit s
  | .xor1CyA bit => Sys2Proof.Machine.execXor1CyA bit s
  | .xor1CyPsw bit => Sys2Proof.Machine.execXor1CyPsw bit s
  | .xor1CyHl bit => Sys2Proof.Machine.execXor1CyHl bit s
  | .mov1SaddrCy saddr bit => Sys2Proof.Machine.execMov1SaddrCy saddr bit s
  | .mov1SfrCy sfr bit => Sys2Proof.Machine.execMov1SfrCy sfr bit s
  | .mov1ACy bit => Sys2Proof.Machine.execMov1ACy bit s
  | .mov1PswCy bit => Sys2Proof.Machine.execMov1PswCy bit s
  | .mov1HlCy bit => Sys2Proof.Machine.execMov1HlCy bit s
  | .set1Saddr saddr bit => Sys2Proof.Machine.execSet1Saddr saddr bit s
  | .set1Sfr sfr bit => Sys2Proof.Machine.execSet1Sfr sfr bit s
  | .set1A bit => Sys2Proof.Machine.execSet1A bit s
  | .set1Psw bit => Sys2Proof.Machine.execSet1Psw bit s
  | .set1Hl bit => Sys2Proof.Machine.execSet1Hl bit s
  | .clr1Saddr saddr bit => Sys2Proof.Machine.execClr1Saddr saddr bit s
  | .clr1Sfr sfr bit => Sys2Proof.Machine.execClr1Sfr sfr bit s
  | .clr1A bit => Sys2Proof.Machine.execClr1A bit s
  | .clr1Psw bit => Sys2Proof.Machine.execClr1Psw bit s
  | .clr1Hl bit => Sys2Proof.Machine.execClr1Hl bit s
  | .set1Cy => Sys2Proof.Machine.execSet1Cy s
  | .clr1Cy => Sys2Proof.Machine.execClr1Cy s
  | .not1Cy => Sys2Proof.Machine.execNot1Cy s
  | .call addr => Sys2Proof.Machine.execCall addr s
  | .callf page low => Sys2Proof.Machine.execCallf page low s
  | .callt entry => Sys2Proof.Machine.execCallt entry s
  | .brk => Sys2Proof.Machine.execBrk s
  | .ret => Sys2Proof.Machine.execRet s
  | .reti => Sys2Proof.Machine.execReti s
  | .retb => Sys2Proof.Machine.execRetb s
  | .pushPsw => Sys2Proof.Machine.execPushPsw s
  | .pushRp rp => Sys2Proof.Machine.execPushRp rp s
  | .popPsw => Sys2Proof.Machine.execPopPsw s
  | .popRp rp => Sys2Proof.Machine.execPopRp rp s
  | .movwSpImm word => Sys2Proof.Machine.execMovwSpImm word s
  | .movwSpAx => Sys2Proof.Machine.execMovwSpAx s
  | .movwAxSp => Sys2Proof.Machine.execMovwAxSp s
  | .brAddr16 addr => Sys2Proof.Machine.execBrAddr16 addr s
  | .brRel disp => Sys2Proof.Machine.execBrRel disp s
  | .brAx => Sys2Proof.Machine.execBrAx s
  | .bcRel disp => Sys2Proof.Machine.execBcRel disp s
  | .bncRel disp => Sys2Proof.Machine.execBncRel disp s
  | .bzRel disp => Sys2Proof.Machine.execBzRel disp s
  | .bnzRel disp => Sys2Proof.Machine.execBnzRel disp s
  | .btSaddr saddr bit disp => Sys2Proof.Machine.execBtSaddr saddr bit disp s
  | .btSfr sfr bit disp => Sys2Proof.Machine.execBtSfr sfr bit disp s
  | .btA bit disp => Sys2Proof.Machine.execBtA bit disp s
  | .btPsw bit disp => Sys2Proof.Machine.execBtPsw bit disp s
  | .btHl bit disp => Sys2Proof.Machine.execBtHl bit disp s
  | .bfSaddr saddr bit disp => Sys2Proof.Machine.execBfSaddr saddr bit disp s
  | .bfSfr sfr bit disp => Sys2Proof.Machine.execBfSfr sfr bit disp s
  | .bfA bit disp => Sys2Proof.Machine.execBfA bit disp s
  | .bfPsw bit disp => Sys2Proof.Machine.execBfPsw bit disp s
  | .bfHl bit disp => Sys2Proof.Machine.execBfHl bit disp s
  | .btclrSaddr saddr bit disp => Sys2Proof.Machine.execBtclrSaddr saddr bit disp s
  | .btclrSfr sfr bit disp => Sys2Proof.Machine.execBtclrSfr sfr bit disp s
  | .btclrA bit disp => Sys2Proof.Machine.execBtclrA bit disp s
  | .btclrPsw bit disp => Sys2Proof.Machine.execBtclrPsw bit disp s
  | .btclrHl bit disp => Sys2Proof.Machine.execBtclrHl bit disp s
  | .dbnzB disp => Sys2Proof.Machine.execDbnzB disp s
  | .dbnzC disp => Sys2Proof.Machine.execDbnzC disp s
  | .dbnzSaddr saddr disp => Sys2Proof.Machine.execDbnzSaddr saddr disp s
  | .sel bank => Sys2Proof.Machine.execSel bank s
  | .nop => Sys2Proof.Machine.execNop s
  | .ei => Sys2Proof.Machine.execEi s
  | .di => Sys2Proof.Machine.execDi s
  | .halt => Sys2Proof.Machine.execHalt s
  | .stop => Sys2Proof.Machine.execStop s

end Sys2Proof.Machine
end

