-- ==== Sys2Proof/Machine/Fetch.lean ====
section
/-! DEFINITION. Fetching and decoding the instruction at PC (R122, R125, R181), and what happens where there is none. -/

namespace Sys2Proof.Machine

/-- The byte that `Fetch(a)` returns (R122): flash or open expansion RAM. -/
def State.codeByte (s : State) (a : Nat) : Byte :=
  if a < s.dev.flashEnd then s.flashByte a else s.mem.get a

/-- The next `n` bytes of code from an address, fewer where they leave the areas that hold instructions (R122). Addresses
wrap (D4). -/
def State.codeBytes (s : State) (a : Word) : Nat → List Byte
  | 0 => []
  | n + 1 => if s.dev.fetchable a.toNat then s.codeByte a.toNat :: s.codeBytes (a + 1) n else []

/-- The instruction at PC and its length, or why there is none (R181). -/
def State.fetchInstr (s : State) : Except DecodeError (Instr × Nat) :=
  let bytes := s.codeBytes s.pc 4
  match decode bytes with
  | .ok (i, rest) => .ok (i, bytes.length - rest.length)
  | .error e => .error e

/-- The first address from PC on that holds no instructions. -/
def State.fetchEnd (s : State) : Nat := (s.pc + BitVec.ofNat 16 (s.codeBytes s.pc 4).length).toNat

/-- What happens where no instruction can be fetched: a byte sequence that is none (U6), an odd 16-bit operand (U5), or a
fetch outside the areas that hold instructions, which the illegal-access detection may catch (R122, R626, U2). -/
def State.fetchStop (s : State) (e : DecodeError) : Res State :=
  match e with
  | .unassigned => .fault (.undefinedCode s.pc.toNat)
  | .oddOperand => .refused .oddOperand
  | .truncated =>
    if s.dev.catchesFetch s.fetchEnd then .next (s.takeReset .watchdog) else .fault (.fetch s.fetchEnd)

/-- Memory with bytes of code in flash from an address on. -/
def State.putCode (s : State) (a : Nat) : List Byte → Memory
  | [] => s.mem
  | b :: bs => (s.putCode (a + 1) bs).put (s.dev.flashCell a) b

end Sys2Proof.Machine
end

