-- ==== Sys2Proof/Machine/Timing.lean ====
section
/-! DEFINITION. CPU clocks of each instruction (R182): the note 1 count, for the internal high-speed RAM or no data access,
and the note 2 count, for any other area. -/

namespace Sys2Proof.Machine

/-- The clock column of the opcode table (R182): note 1 and note 2; a form with one count has it in both places. -/
def clockColumn : Instr → Nat × Nat
  | .movASfr _ | .movSfrA _ | .movAPsw | .movPswA => (5, 5)
  | .xchASfr _ | .set1Psw _ | .clr1Psw _ | .ei | .di => (6, 6)
  | .movSfrImm _ _ | .movPswImm _ | .mov1CySfr _ _ | .mov1CyPsw _ | .and1CySfr _ _ | .and1CyPsw _
  | .or1CySfr _ _ | .or1CyPsw _ | .xor1CySfr _ _ | .xor1CyPsw _ => (7, 7)
  | .movwAxSfrp _ | .movwSfrpAx _ | .mov1SfrCy _ _ | .mov1PswCy _ | .set1Sfr _ _ | .clr1Sfr _ _ | .movwSpAx
  | .movwAxSp => (8, 8)
  | .btPsw _ _ => (9, 9)
  | .movwSfrpImm _ _ | .movwSpImm _ => (10, 10)
  | .btSfr _ _ _ | .bfSfr _ _ _ | .bfPsw _ _ => (11, 11)
  | .btclrSfr _ _ _ | .btclrPsw _ _ => (12, 12)
  | .movAR _ | .movRA _ | .xchAR _ | .incR _ | .decR _ | .rorA | .rolA | .rorcA | .rolcA | .set1Cy | .clr1Cy
  | .not1Cy | .pushPsw | .popPsw | .nop => (2, 2)
  | .movRImm _ _ | .movwAxRp _ | .movwRpAx _ | .xchwAxRp _ | .addAImm _ | .addAR _ | .addRA _ | .addcAImm _
  | .addcAR _ | .addcRA _ | .subAImm _ | .subAR _ | .subRA _ | .subcAImm _ | .subcAR _ | .subcRA _ | .andAImm _
  | .andAR _ | .andRA _ | .orAImm _ | .orAR _ | .orRA _ | .xorAImm _ | .xorAR _ | .xorRA _ | .cmpAImm _
  | .cmpAR _ | .cmpRA _ | .incwRp _ | .decwRp _ | .adjba | .adjbs | .mov1CyA _ | .and1CyA _ | .or1CyA _
  | .xor1CyA _ | .mov1ACy _ | .set1A _ | .clr1A _ | .pushRp _ | .popRp _ | .sel _ => (4, 4)
  | .movASaddr _ | .movSaddrA _ | .movADe | .movDeA | .movAHl | .movHlA | .addASaddr _ | .addAHl | .addcASaddr _
  | .addcAHl | .subASaddr _ | .subAHl | .subcASaddr _ | .subcAHl | .andASaddr _ | .andAHl | .orASaddr _ | .orAHl
  | .xorASaddr _ | .xorAHl | .cmpASaddr _ | .cmpAHl => (4, 5)
  | .xchASaddr _ | .xchADe | .xchAHl | .incSaddr _ | .decSaddr _ | .set1Saddr _ _ | .clr1Saddr _ _ => (4, 6)
  | .callf _ _ => (5, 5)
  | .movwRpImm _ _ | .addwAxImm _ | .subwAxImm _ | .cmpwAxImm _ | .callt _ | .brk | .ret | .reti | .retb
  | .brAddr16 _ | .brRel _ | .bcRel _ | .bncRel _ | .bzRel _ | .bnzRel _ | .dbnzB _ | .dbnzC _ | .halt | .stop => (6, 6)
  | .movSaddrImm _ _ | .movAHlB | .movHlBA | .movAHlC | .movHlCA | .mov1CySaddr _ _ | .mov1CyHl _
  | .and1CySaddr _ _ | .and1CyHl _ | .or1CySaddr _ _ | .or1CyHl _ | .xor1CySaddr _ _ | .xor1CyHl _ => (6, 7)
  | .movwAxSaddrp _ | .movwSaddrpAx _ | .addSaddrImm _ _ | .addcSaddrImm _ _ | .subSaddrImm _ _
  | .subcSaddrImm _ _ | .andSaddrImm _ _ | .orSaddrImm _ _ | .xorSaddrImm _ _ | .cmpSaddrImm _ _
  | .mov1SaddrCy _ _ | .mov1HlCy _ | .set1Hl _ | .clr1Hl _ => (6, 8)
  | .call _ => (7, 7)
  | .brAx | .btA _ _ | .bfA _ _ | .btclrA _ _ => (8, 8)
  | .movAAddr16 _ | .movAddr16A _ | .movAHlByte _ | .movHlByteA _ | .addAAddr16 _ | .addAHlByte _ | .addAHlB
  | .addAHlC | .addcAAddr16 _ | .addcAHlByte _ | .addcAHlB | .addcAHlC | .subAAddr16 _ | .subAHlByte _
  | .subAHlB | .subAHlC | .subcAAddr16 _ | .subcAHlByte _ | .subcAHlB | .subcAHlC | .andAAddr16 _
  | .andAHlByte _ | .andAHlB | .andAHlC | .orAAddr16 _ | .orAHlByte _ | .orAHlB | .orAHlC | .xorAAddr16 _
  | .xorAHlByte _ | .xorAHlB | .xorAHlC | .cmpAAddr16 _ | .cmpAHlByte _ | .cmpAHlB | .cmpAHlC | .btSaddr _ _ _ => (8, 9)
  | .xchAAddr16 _ | .xchAHlByte _ | .xchAHlB | .xchAHlC | .movwSaddrpImm _ _ | .dbnzSaddr _ _ => (8, 10)
  | .btHl _ _ | .bfSaddr _ _ _ | .bfHl _ _ => (10, 11)
  | .movwAxAddr16 _ | .movwAddr16Ax _ | .ror4Hl | .rol4Hl | .btclrSaddr _ _ _ | .btclrHl _ _ => (10, 12)
  | .mulu => (16, 16)
  | .divuw => (25, 25)

/-- The address of the memory operand of the forms that have two clock counts (R182). -/
def operandAddr (i : Instr) (s : State) : Option Word :=
  match i with
  | .movSaddrImm saddr _ | .movASaddr saddr | .movSaddrA saddr | .xchASaddr saddr | .movwSaddrpImm saddr _
  | .movwAxSaddrp saddr | .movwSaddrpAx saddr | .addSaddrImm saddr _ | .addASaddr saddr | .addcSaddrImm saddr _
  | .addcASaddr saddr | .subSaddrImm saddr _ | .subASaddr saddr | .subcSaddrImm saddr _ | .subcASaddr saddr
  | .andSaddrImm saddr _ | .andASaddr saddr | .orSaddrImm saddr _ | .orASaddr saddr | .xorSaddrImm saddr _
  | .xorASaddr saddr | .cmpSaddrImm saddr _ | .cmpASaddr saddr | .incSaddr saddr | .decSaddr saddr
  | .mov1CySaddr saddr _ | .and1CySaddr saddr _ | .or1CySaddr saddr _ | .xor1CySaddr saddr _
  | .mov1SaddrCy saddr _ | .set1Saddr saddr _ | .clr1Saddr saddr _ | .btSaddr saddr _ _ | .bfSaddr saddr _ _
  | .btclrSaddr saddr _ _ | .dbnzSaddr saddr _ => some (saddrEA saddr)
  | .movAAddr16 addr | .movAddr16A addr | .xchAAddr16 addr | .movwAxAddr16 addr | .movwAddr16Ax addr
  | .addAAddr16 addr | .addcAAddr16 addr | .subAAddr16 addr | .subcAAddr16 addr | .andAAddr16 addr
  | .orAAddr16 addr | .xorAAddr16 addr | .cmpAAddr16 addr => some addr
  | .movADe | .movDeA | .xchADe => some s.deEA
  | .movAHl | .movHlA | .xchAHl | .addAHl | .addcAHl | .subAHl | .subcAHl | .andAHl | .orAHl | .xorAHl | .cmpAHl
  | .ror4Hl | .rol4Hl | .mov1CyHl _ | .and1CyHl _ | .or1CyHl _ | .xor1CyHl _ | .mov1HlCy _ | .set1Hl _
  | .clr1Hl _ | .btHl _ _ | .bfHl _ _ | .btclrHl _ _ => some s.hlEA
  | .movAHlByte disp | .movHlByteA disp | .xchAHlByte disp | .addAHlByte disp | .addcAHlByte disp
  | .subAHlByte disp | .subcAHlByte disp | .andAHlByte disp | .orAHlByte disp | .xorAHlByte disp
  | .cmpAHlByte disp => some (s.hlByteEA disp)
  | .movAHlB | .movHlBA | .xchAHlB | .addAHlB | .addcAHlB | .subAHlB | .subcAHlB | .andAHlB | .orAHlB | .xorAHlB
  | .cmpAHlB => some s.hlBEA
  | .movAHlC | .movHlCA | .xchAHlC | .addAHlC | .addcAHlC | .subAHlC | .subcAHlC | .andAHlC | .orAHlC | .xorAHlC
  | .cmpAHlC => some s.hlCEA
  | .movRImm _ _ | .movSfrImm _ _ | .movAR _ | .movRA _ | .movASfr _ | .movSfrA _ | .movPswImm _ | .movAPsw
  | .movPswA | .xchAR _ | .xchASfr _ | .movwRpImm _ _ | .movwSfrpImm _ _ | .movwAxSfrp _ | .movwSfrpAx _
  | .movwAxRp _ | .movwRpAx _ | .xchwAxRp _ | .addAImm _ | .addAR _ | .addRA _ | .addcAImm _ | .addcAR _
  | .addcRA _ | .subAImm _ | .subAR _ | .subRA _ | .subcAImm _ | .subcAR _ | .subcRA _ | .andAImm _ | .andAR _
  | .andRA _ | .orAImm _ | .orAR _ | .orRA _ | .xorAImm _ | .xorAR _ | .xorRA _ | .cmpAImm _ | .cmpAR _
  | .cmpRA _ | .addwAxImm _ | .subwAxImm _ | .cmpwAxImm _ | .mulu | .divuw | .incR _ | .decR _ | .incwRp _
  | .decwRp _ | .rorA | .rolA | .rorcA | .rolcA | .adjba | .adjbs | .mov1CySfr _ _ | .mov1CyA _ | .mov1CyPsw _
  | .and1CySfr _ _ | .and1CyA _ | .and1CyPsw _ | .or1CySfr _ _ | .or1CyA _ | .or1CyPsw _ | .xor1CySfr _ _
  | .xor1CyA _ | .xor1CyPsw _ | .mov1SfrCy _ _ | .mov1ACy _ | .mov1PswCy _ | .set1Sfr _ _ | .set1A _
  | .set1Psw _ | .clr1Sfr _ _ | .clr1A _ | .clr1Psw _ | .set1Cy | .clr1Cy | .not1Cy | .call _ | .callf _ _
  | .callt _ | .brk | .ret | .reti | .retb | .pushPsw | .pushRp _ | .popPsw | .popRp _ | .movwSpImm _
  | .movwSpAx | .movwAxSp | .brAddr16 _ | .brRel _ | .brAx | .bcRel _ | .bncRel _ | .bzRel _ | .bnzRel _
  | .btSfr _ _ _ | .btA _ _ | .btPsw _ _ | .bfSfr _ _ _ | .bfA _ _ | .bfPsw _ _ | .btclrSfr _ _ _ | .btclrA _ _
  | .btclrPsw _ _ | .dbnzB _ | .dbnzC _ | .sel _ | .nop | .ei | .di | .halt | .stop => none

/-- The operand lies outside the internal high-speed RAM (R182). -/
def State.slowOperand (s : State) (i : Instr) : Bool :=
  match operandAddr i s with
  | some a => decide (a.toNat < s.dev.ramStart) || decide (0xFF00 ≤ a.toNat)
  | none => false

/-- The CPU clocks of an instruction (R182); the wait clocks of R951 and R953 are not counted. The spec's source gives no counts
for a program in the internal expansion RAM (N6); the model counts it as one in ROM: DESIGN CHOICE, unsafe (log 84). -/
def State.clocksOf (s : State) (i : Instr) : Nat :=
  if s.slowOperand i then (clockColumn i).2 else (clockColumn i).1

end Sys2Proof.Machine
end

