-- ==== Sys2Proof/Machine/Step.lean ====
section
/-! DEFINITION. One step of the machine (D16, D23): the next move of the agenda, or an instruction of the CPU where the
agenda is empty. -/

namespace Sys2Proof.Machine

/-- The moves meant for the middle of an instruction that had no middle come right after it (R146). -/
def State.leftover (s : State) : State :=
  match s.between with
  | [] => s
  | ms => { s with agenda := ms.map Move.agent ++ s.agenda, between := [] }

/-- The CPU executes one instruction: fetch, decode, meaning, and the instruction boundary (R125, R181, R421). -/
def State.instruction (s : State) : Res State :=
  match s.fetchInstr with
  | .error e => s.leftover.fetchStop e
  | .ok (i, n) =>
    let t := { s with pc := s.pc + BitVec.ofNat 16 n }
    andThen (exec i t) fun u => u.leftover.boundary (t.clocksOf i)

/-- The CPU's turn: an instruction while it runs and has a clock; no change in standby or while a reset signal is active. -/
def State.cpuTurn (s : State) : Res State :=
  match s.dev.mode with
  | .run => if s.dev.cpuClockRuns then s.instruction else .fault .cpuClockStopped
  | .halt | .stop | .stabilise | .held => .next s.leftover

/-- One step. -/
def step (s : State) : Host.Outcome State Fault Refusal :=
  match s.agenda with
  | [] => s.cpuTurn
  | .cpu ms :: rest => State.cpuTurn { s with agenda := rest, between := ms ++ s.between }
  | .agent m :: rest => State.otherTurn { s with agenda := rest } m

/-- The state with an instruction's bytes where the next step fetches: in flash at PC, or at 0100H where PC is not in flash
with room for the longest instruction; the CPU running, its turn next (log entry 8). -/
def State.withFetchWord (s : State) (nbits w : Nat) : State :=
  let room := decide (s.pc.toNat + 4 ≤ s.dev.flashEnd)
  let pc := if room then s.pc else 0x0100
  { s with
    pc := pc
    agenda := []
    between := []
    dev := { s.dev with mode := .run }
    mem := s.putCode pc.toNat (tableBytesPadded nbits w) }

end Sys2Proof.Machine
end

