-- ==== Sys2Proof/Safety.lean ====
section
/-! DEFINITION. What counts as a safe state and a safe run, in the terms that claims use. -/

namespace Sys2Proof.Machine

/-- The invariant of the machine between steps: memory is in canonical form, bit 2 of PSW is 0 (R28), no interrupt hold is
left over (R430: `hold` is cleared at the boundary), no reset request is pending (R930: a reset overrides
everything), and no move meant for the middle of an instruction is left over (R146). -/
structure Inv (s : State) : Prop where
  memCanonical : s.mem.wf = true
  pswBit2      : s.psw.getLsbD 2 = false
  noHold       : s.hold = false
  noReset      : s.dev.resetReq = none
  noBetween    : s.between = []

/-- The outcome of a step is a next state. -/
def Completes {α : Type} (x : Res α) : Prop := ∃ a, x = .next a

/-- The machine takes `n` steps without a fault or a refusal. -/
def SafeFor : Nat → State → Prop
  | 0, _ => True
  | n + 1, s => ∃ t, step s = .next t ∧ SafeFor n t

/-- In `s` it is the CPU's turn, and it takes it in `q`: with nothing on the agenda, or with its turn first on it, which may
bring moves for the middle of the instruction (R146). -/
def CpuTurn (s q : State) : Prop :=
  (s.agenda = [] ∧ q = s) ∨
    ∃ ms rest, s.agenda = .cpu ms :: rest ∧ q = { s with agenda := rest, between := ms ++ s.between }

/-! ### Frames: what an instruction leaves unchanged -/

/-- The addresses of a register pair in the bank that `psw` selects (R21, R22). -/
def pairAddrs (psw : Byte) (rp : RegPair) : List Nat := [regAddr psw (lowReg rp), regAddr psw (highReg rp)]

/-- From `s` to `t` only the bytes of memory at `written` may change, PSW and PC become the given values, and everything
else is as before. The general registers are bytes of memory (R21), so this frames them too. -/
structure Frame (s t : State) (written : List Nat) (psw : Byte) (pc : Word) : Prop where
  mem       : ∀ a, a ∉ written → t.mem.get a = s.mem.get a
  psw       : t.psw = psw
  pc        : t.pc = pc
  sp        : t.sp = s.sp
  hold      : t.hold = s.hold
  draws     : t.draws = s.draws
  cpuClocks : t.cpuClocks = s.cpuClocks
  agenda    : t.agenda = s.agenda
  between   : t.between = s.between
  dev       : t.dev = s.dev

/-- What a store has done where the byte went (R121): the cell, register or display byte holds the value; a store to flash
changes nothing; a register takes it as `sfrWrite` says, unless the illegal-access detection caught the access; and an access
where nothing answers requests a reset or records a fault, and does nothing else (R626, R768, U1). -/
def StoredAt (s t : State) (u : AccessUnit) (ea : Word) (v : Byte) : Prop :=
  match s.dev.area ea.toNat with
  | .flash => t = s
  | .ram => t.mem.get ea.toNat = v
  | .lcd => t.dev.ram.get ea.toNat = v &&& lcdMask ea.toNat
  | .buffer => if s.dev.bit .CSIMA0 7 then t.dev.ram.get ea.toNat = v else t.dev = s.dev.note ea.toNat
  | .sp => t.sp = if ea.toNat = 0xFF1C then join (hi s.sp) v else join v (lo s.sp)
  | .psw => t.psw = pswValue v
  | .sfr =>
    if s.sfrCaught ea.toNat then t.dev = s.dev.strayAccess ea.toNat else s.dev.sfrWrite u ea.toNat v = .next t.dev
  | .closed => t.dev = s.dev.strayAccess ea.toNat

/-- What a store has left as it was outside the CPU: everything, where the byte went to memory of the CPU, SP or PSW; every other
byte of the display and buffer RAM, and every register and peripheral, where it went there, but that an access to the buffer RAM may
extend an interval of CSIA0 (R768). What a register write does is `sfrWrite`, and what an access where nothing answers does is all in
`StoredAt`. -/
def StoredBeside (s t : State) (ea : Word) : Prop :=
  match s.dev.area ea.toNat with
  | .flash | .ram | .sp | .psw => t.dev = s.dev
  | .lcd => t.dev = { s.dev with ram := t.dev.ram } ∧ ∀ a, a ≠ ea.toNat → t.dev.ram.get a = s.dev.ram.get a
  | .buffer => s.dev.bit .CSIMA0 7 = true →
    t.dev = { s.dev.csiaContend with ram := t.dev.ram } ∧ ∀ a, a ≠ ea.toNat → t.dev.ram.get a = s.dev.ram.get a
  | .sfr | .closed => True

/-- From `s` to `t` one byte was stored at `ea` and everything else is as before; a register of the SFR area may act on
the peripherals (R121), and FFE0H to FFEBH hold interrupt requests (R430). -/
structure Stored (s t : State) (u : AccessUnit) (ea : Word) (v : Byte) : Prop where
  value     : StoredAt s t u ea v
  beside    : StoredBeside s t ea
  mem       : ∀ a, a ≠ ea.toNat → t.mem.get a = s.mem.get a
  cells     : s.dev.area ea.toNat ≠ .ram → t.mem = s.mem
  psw       : s.dev.area ea.toNat ≠ .psw → t.psw = s.psw
  sp        : s.dev.area ea.toNat ≠ .sp → t.sp = s.sp
  hold      : holdsAt ea.toNat = false → t.hold = s.hold
  pc        : t.pc = s.pc
  draws     : t.draws = s.draws
  cpuClocks : t.cpuClocks = s.cpuClocks
  agenda    : t.agenda = s.agenda
  between   : t.between = s.between

/-- What a read that gives any value leaves outside the CPU: what it did there, and one draw counted for the byte (U1). -/
def Devices.readAny (d : Devices) : Devices := { d with draws := d.draws + 1 }

/-- What a load gives (R120). -/
def LoadedFrom (s t : State) (u : AccessUnit) (ea : Word) (v : Byte) : Prop :=
  match s.dev.area ea.toNat with
  | .flash => v = s.flashByte ea.toNat ∧ t = s
  | .ram => v = s.mem.get ea.toNat ∧ t = s
  | .lcd => v = s.dev.ram.get ea.toNat &&& lcdMask ea.toNat ∧ t = s
  | .buffer =>
    if s.dev.bit .CSIMA0 7 then v = s.dev.ram.get ea.toNat ∧ t = { s with dev := s.dev.csiaContend }
    else t.dev = (s.dev.note ea.toNat).readAny
  | .sp => v = (if ea.toNat = 0xFF1C then lo s.sp else hi s.sp) ∧ t = s
  | .psw => v = s.psw ∧ t = s
  | .sfr =>
    if s.sfrCaught ea.toNat then t.dev = (s.dev.strayAccess ea.toNat).readAny
    else s.dev.sfrRead u ea.toNat = .next (v, t.dev)
  | .closed => t.dev = (s.dev.strayAccess ea.toNat).readAny

/-- From `s` to `t` one byte was read at `ea`; only the peripherals and the hold condition may have changed, and those
only by an access to the SFR area, one to the buffer RAM, which may extend an interval of CSIA0 (R768), or one where nothing answers. -/
structure Loaded (s t : State) (u : AccessUnit) (ea : Word) (v : Byte) : Prop where
  value     : LoadedFrom s t u ea v
  mem       : t.mem = s.mem
  psw       : t.psw = s.psw
  sp        : t.sp = s.sp
  pc        : t.pc = s.pc
  hold      : holdsAt ea.toNat = false → t.hold = s.hold
  draws     : t.draws = s.draws
  cpuClocks : t.cpuClocks = s.cpuClocks
  agenda    : t.agenda = s.agenda
  between   : t.between = s.between

/-- A byte can be read in a unit at an address: the cases in which `MemRead` answers (R101, R120, U1 to U4). -/
def Readable (s : State) (u : AccessUnit) (ea : Word) : Prop :=
  match s.dev.area ea.toNat with
  | .sfr => s.sfrCaught ea.toNat = true ∨ Completes (s.dev.sfrRead u ea.toNat)
  | _ => True

/-- A byte can be written in a unit at an address: the cases in which `MemWrite` answers. -/
def Writable (s : State) (u : AccessUnit) (ea : Word) (v : Byte) : Prop :=
  match s.dev.area ea.toNat with
  | .sfr => s.sfrCaught ea.toNat = true ∨ Completes (s.dev.sfrWrite u ea.toNat v)
  | _ => True

/-- The `n` bytes below an address lie in RAM: where the stack must be (R36, R38, R138). -/
def StackBelow (s : State) (top : Word) : Nat → Prop
  | 0 => True
  | n + 1 => s.dev.area (top - 1).toNat = .ram ∧ StackBelow s (top - 1) n

/-- The `n` bytes from an address up lie in RAM. -/
def StackAbove (s : State) (top : Word) : Nat → Prop
  | 0 => True
  | n + 1 => s.dev.area top.toNat = .ram ∧ StackAbove s (top + 1) n

end Sys2Proof.Machine
end

