-- ==== Sys2Proof/Certificates/Slice0/Obligations.lean ====
section
/-! DEFINITION. The statements for the provers. Every per-instruction statement ends in a next state and says what that state
holds and what it leaves as it was (`Frame`, `Stored`, `Loaded` of `Safety`). While an instruction executes, PC is the
address of the byte after it. The general registers are bytes of memory (R21), so a statement about memory frames them. -/

section

open Sys2Proof Sys2Proof.Machine

/-! ### Encoding, decoding, stepping -/

/-- Decoding an encoded well-formed instruction gives it back, with the bytes that follow left over. The code map is the
spec's general knowledge (log 1). -/
def Obligations.DecodeEncode : Prop :=
  ∀ (i : Instr) (rest : List Byte), i.wf = true → decode (encode i ++ rest) = .ok (i, rest)

/-- Words written out from the encodings: the worked examples of the source and one word of each other family, whose codes are
the spec's general knowledge (log 1); 06H is unassigned. -/
def Obligations.DecodeExamples : Prop :=
  decode [0x62] = .ok (.movAR .c, []) ∧ decode [0x84] = .ok (.incwRp .de, []) ∧
  decode [0x8E, 0x00, 0xFE] = .ok (.movAAddr16 0xFE00, []) ∧ decode [0xF2, 0x30] = .ok (.movSaddrA 0x30, []) ∧
  decode [0xF6, 0x20] = .ok (.movSfrA 0x20, []) ∧ decode [0x85] = .ok (.movADe, []) ∧
  decode [0xAE, 0x10] = .ok (.movAHlByte 0x10, []) ∧ decode [0xEE, 0x20, 0x34, 0x12] = .ok (.movwSaddrpImm 0x20 0x1234, []) ∧
  decode [0x0D, 0xC6] = .ok (.addAImm 0xC6, []) ∧ decode [0x31, 0x90] = .ok (.ror4Hl, []) ∧
  decode [0x71, 0x0B, 0xE0] = .ok (.clr1Sfr 0xE0 0, []) ∧ decode [0x4C, 0x34] = .ok (.callf 4 0x34, []) ∧
  decode [0xB5] = .ok (.pushRp .de, []) ∧ decode [0x31, 0x01, 0x20, 0x0C] = .ok (.btclrSaddr 0x20 0 0x0C, []) ∧
  decode [0x61, 0xF8] = .ok (.sel 3, []) ∧ decode [0x06] = .error .unassigned

/-- When it is the turn of a running CPU and the bytes at PC decode to an instruction, the step is that instruction, executed
with PC past its bytes; then the moves meant for its middle that found none come first in the agenda, and the instruction
boundary follows with the instruction's clocks (model's choice of a step and of these moves: log 9, 23, 90). -/
def Obligations.StepRunsInstruction : Prop :=
  ∀ (s q : State) (i : Instr) (rest : List Byte),
    CpuTurn s q → s.dev.mode = .run → s.dev.cpuClockRuns = true → i.wf = true →
    decode (s.codeBytes s.pc 4) = .ok (i, rest) →
    let t := { q with pc := s.pc + BitVec.ofNat 16 ((s.codeBytes s.pc 4).length - rest.length) }
    step s = andThen (exec i t) fun u => u.leftover.boundary (t.clocksOf i)

/-- Where the code at PC is the encoding of a well-formed instruction, PC moves past exactly that encoding (modulo 2^16,
log 11), and the step executes the instruction. -/
def Obligations.StepRunsEncoding : Prop :=
  ∀ (s q : State) (i : Instr) (rest : List Byte),
    CpuTurn s q → s.dev.mode = .run → s.dev.cpuClockRuns = true → i.wf = true →
    s.codeBytes s.pc 4 = encode i ++ rest →
    let t := { q with pc := s.pc + BitVec.ofNat 16 i.length }
    step s = andThen (exec i t) fun u => u.leftover.boundary (t.clocksOf i)

/-! ### Memory -/

/-- A byte store keeps the canonical form, is read back, and leaves every other byte alone; and memories in canonical form
that read alike everywhere are equal. (The representation is the model's own.) -/
def Obligations.MemoryLaws : Prop :=
  (∀ (m : Memory) (a : Nat) (v : Byte), m.wf = true →
    (m.put a v).wf = true ∧ (m.put a v).get a = v ∧ ∀ b, b ≠ a → (m.put a v).get b = m.get b) ∧
  (∀ m n : Memory, m.wf = true → n.wf = true → m.epoch = n.epoch → (∀ a, m.get a = n.get a) → m = n)

/-- `MemRead` answers at every readable address, with the value the area holds, and changes nothing but what the access
itself does to a register of the SFR area; `MemWrite` answers at every writable address and stores there and nowhere
else. Either access to the CSIA0 buffer RAM may extend an interval of an automatic transfer that is running, by a free time (R768; its
form: log 142). (What an access does where nothing answers: log 27, 28, 103.) -/
def Obligations.MemAccessCompletes : Prop :=
  ∀ (s : State) (u : AccessUnit) (ea : Word) (v : Byte),
    (Readable s u ea → ∃ b t, s.load u ea = .next (b, t) ∧ Loaded s t u ea b) ∧
    (Writable s u ea v → ∃ t, s.store u ea v = .next t ∧ Stored s t u ea v)

/-- A 16-bit access uses the even address for the low byte and the next address for the high byte (R110): to RAM; to the stack
pointer, which the spec puts at FF1CH from general knowledge (its decision D3; PRESUMED, log 10); to the flag registers IF0, IF1, MK0,
MK1, PR0, PR1, whose words keep the bits that do not exist at their fixed values and hold interrupt requests (D17; the reading of
16-bit accesses is DEDUCED, log 24); to CR000 and CR010 of a stopped timer, where a write of CR010 also leaves the mark that it was
rewritten while the timer ran, a field of the model's own (R552, log 118), off; to TM00 of a stopped timer, where a write
changes no register and records a fault (the spec's treatment U4, log 29). An odd address is refused (U5, log 30). -/
def Obligations.WordAccess : Prop :=
  ∀ (s : State) (ea : Word) (v : Word),
    (ea.getLsbD 0 = true → s.loadWord ea = .refused .oddOperand ∧ s.storeWord ea v = .refused .oddOperand) ∧
    (ea.getLsbD 0 = false → s.dev.area ea.toNat = .ram → s.dev.area (ea.toNat + 1) = .ram →
      s.loadWord ea = .next (join (s.mem.get (ea.toNat + 1)) (s.mem.get ea.toNat), s) ∧
      ∃ t, s.storeWord ea v = .next t ∧ t.mem.get ea.toNat = lo v ∧ t.mem.get (ea.toNat + 1) = hi v ∧
        Frame s t [ea.toNat, ea.toNat + 1] s.psw s.pc) ∧
    (s.loadWord 0xFF1C = .next (s.sp, s) ∧ s.storeWord 0xFF1C v = .next { s with sp := v }) ∧
    (∀ (a : Word) (r r' : Sfr) (k : Nat) (ones : Bool),
      (a, r, r', k, ones) ∈ [((0xFFE0 : Word), Sfr.IF0L, Sfr.IF0H, 0, false), (0xFFE2, .IF1L, .IF1H, 2, false),
        (0xFFE4, .MK0L, .MK0H, 0, true), (0xFFE6, .MK1L, .MK1H, 2, true), (0xFFE8, .PR0L, .PR0H, 0, true),
        (0xFFEA, .PR1L, .PR1H, 2, true)] →
      let bits := join (flagMask s.dev.series (k + 1)) (flagMask s.dev.series k)
      s.loadWord a = .next (join (s.dev.rd r') (s.dev.rd r), s.holding) ∧
      ((if ones then v ||| bits = 0xFFFF else v &&& ~~~bits = 0) →
        ∃ t, s.storeWord a v = .next t ∧ t.dev.rd r = lo v ∧ t.dev.rd r' = hi v ∧
          (∀ q : Sfr, q ≠ r → q ≠ r' → t.dev.rd q = s.dev.rd q) ∧
          t = { s.holding with dev := { s.dev with sfrs := t.dev.sfrs } })) ∧
    (s.dev.tm00Mode = 0 →
      (∀ (a : Word) (r : Sfr), (a, r) ∈ [((0xFF12 : Word), Sfr.CR000), (0xFF14, .CR010)] →
        s.loadWord a = .next (s.dev.rdWord r, s) ∧
        ∃ t, s.storeWord a v = .next t ∧ t.dev.rdWord r = v ∧
          (∀ q : Sfr, q ≠ r → t.dev.rd q = s.dev.rd q) ∧
          t = { s with dev := { s.dev with sfrs := t.dev.sfrs, tm00 :=
            if r = .CR010 then { s.dev.tm00 with rewritten := false } else s.dev.tm00 } }) ∧
      s.loadWord 0xFF10 = .next (s.dev.rdWord .TM00, s) ∧
      s.storeWord 0xFF10 v = .next { s with dev := { s.dev with noted := 0xFF10 :: s.dev.noted } })

/-- The general registers are bytes of memory at FEE0H to FEFFH: register r of bank n is the byte at FEF8H - 8n + r, read and
written by the memory operations too (R21), for every setting IMS may be given. -/
def Obligations.RegisterArea : Prop :=
  ∀ (s : State) (r : Reg8) (u : AccessUnit) (v : Byte), imsAllowed (s.dev.rd .IMS) = true →
    let a := BitVec.ofNat 16 (0xFEF8 - 8 * bankOf s.psw + r.code.toNat)
    s.load u a = .next (s.reg r, s) ∧ s.store u a v = .next (s.putReg r v) ∧ (s.putReg r v).reg r = v

/-- A data access where nothing answers, in such an area or at an SFR address without a register, requests the watchdog's
reset where the illegal-access detection looks, also beyond the product's memory inside the areas that IMS sets, and does
nothing else. Elsewhere it records a fault and does nothing else, and a read gives some value (the spec's treatments U1 and U3,
log 27, 28); and so does an access to the buffer RAM while CSIAE0 = 0 (the model's reading of R768, log 103). -/
def Obligations.IllegalAccess : Prop :=
  ∀ (s : State) (u : AccessUnit) (ea : Word) (v : Byte),
    let a := ea.toNat
    let noRegister := s.dev.area a = .sfr ∧ s.dev.regAt a = none
    (s.dev.area a = .closed ∨ noRegister → s.dev.wdton = true → watchdogBlind a = false →
      (∃ b, s.load u ea = .next (b, { s with dev := (s.dev.requestReset .watchdog).readAny })) ∧
      s.store u ea v = .next { s with dev := s.dev.requestReset .watchdog }) ∧
    ((s.dev.area a = .closed ∨ noRegister) ∧ (s.dev.wdton = false ∨ watchdogBlind a = true) ∨
        s.dev.area a = .buffer ∧ s.dev.bit .CSIMA0 7 = false →
      let noted := { s.dev with noted := a :: s.dev.noted }
      (∃ b, s.load u ea = .next (b, { s with dev := noted.readAny })) ∧ s.store u ea v = .next { s with dev := noted })

/-! ### 8-bit data transfer -/

/-- `MOV r,#byte`, `MOV A,r`, `MOV r,A`, `XCH A,r`: the destination registers take the values, and nothing else changes. -/
def Obligations.MovRegisters : Prop :=
  ∀ (s : State) (r : Reg8) (imm : Byte),
    (∃ t, exec (.movRImm r imm) s = .next t ∧ t.reg r = imm ∧ Frame s t [regAddr s.psw r] s.psw s.pc) ∧
    (∃ t, exec (.movAR r) s = .next t ∧ t.reg .a = s.reg r ∧ Frame s t [regAddr s.psw .a] s.psw s.pc) ∧
    (∃ t, exec (.movRA r) s = .next t ∧ t.reg r = s.reg .a ∧ Frame s t [regAddr s.psw r] s.psw s.pc) ∧
    (∃ t, exec (.xchAR r) s = .next t ∧ t.reg .a = s.reg r ∧ t.reg r = s.reg .a ∧
      Frame s t [regAddr s.psw .a, regAddr s.psw r] s.psw s.pc)

/-- `MOV A,mem` in its eight forms: A takes the byte read at the form's effective address; no flag and no other byte
changes. -/
def Obligations.MovLoads : Prop :=
  ∀ (s : State) (saddr sfr disp : Byte) (addr : Word) (i : Instr) (ea : Word),
    (i, ea) ∈ [(.movASaddr saddr, saddrEA saddr), (.movASfr sfr, sfrEA sfr), (.movAAddr16 addr, addr), (.movADe, s.deEA),
      (.movAHl, s.hlEA), (.movAHlByte disp, s.hlByteEA disp), (.movAHlB, s.hlBEA), (.movAHlC, s.hlCEA)] →
    Readable s .byte ea →
    ∃ v t w, Loaded s t .byte ea v ∧ exec i s = .next w ∧ w.reg .a = v ∧ Frame t w [regAddr s.psw .a] s.psw s.pc

/-- `MOV mem,A` in its eight forms, `MOV saddr,#byte` and `MOV sfr,#byte`: the byte is stored at the form's effective address
and nowhere else. -/
def Obligations.MovStores : Prop :=
  ∀ (s : State) (saddr sfr disp imm : Byte) (addr : Word) (i : Instr) (ea : Word) (v : Byte),
    (i, ea, v) ∈ [(.movSaddrImm saddr imm, saddrEA saddr, imm), (.movSfrImm sfr imm, sfrEA sfr, imm),
      (.movSaddrA saddr, saddrEA saddr, s.reg .a), (.movSfrA sfr, sfrEA sfr, s.reg .a), (.movAddr16A addr, addr, s.reg .a),
      (.movDeA, s.deEA, s.reg .a), (.movHlA, s.hlEA, s.reg .a), (.movHlByteA disp, s.hlByteEA disp, s.reg .a),
      (.movHlBA, s.hlBEA, s.reg .a), (.movHlCA, s.hlCEA, s.reg .a)] →
    Writable s .byte ea v → ∃ t, exec i s = .next t ∧ Stored s t .byte ea v

/-- `MOV PSW,#byte`, `MOV A,PSW`, `MOV PSW,A`: all bits of PSW are transferred but bit 2 (the spec's decision
D5, log 12), and interrupt requests are held. -/
def Obligations.MovPsw : Prop :=
  ∀ (s : State) (imm : Byte),
    (∃ t, exec (.movPswImm imm) s = .next t ∧ Frame s.holding t [] (pswValue imm) s.pc) ∧
    (∃ t, exec .movAPsw s = .next t ∧ t.reg .a = s.psw ∧ Frame s.holding t [regAddr s.psw .a] s.psw s.pc) ∧
    (∃ t, exec .movPswA s = .next t ∧ Frame s.holding t [] (pswValue (s.reg .a)) s.pc)

/-- `XCH A,mem` in its eight forms: one read, one write of A at the same address, and A of the bank selected at the start
(the model's reading, log 65) takes the byte read. Peripherals may act between the read and the write (`midway`, R146). -/
def Obligations.XchMemory : Prop :=
  ∀ (s t : State) (saddr sfr disp : Byte) (addr : Word) (i : Instr) (ea : Word) (v : Byte),
    (i, ea) ∈ [(.xchASaddr saddr, saddrEA saddr), (.xchASfr sfr, sfrEA sfr), (.xchAAddr16 addr, addr), (.xchADe, s.deEA),
      (.xchAHl, s.hlEA), (.xchAHlByte disp, s.hlByteEA disp), (.xchAHlB, s.hlBEA), (.xchAHlC, s.hlCEA)] →
    s.load .byte ea = .next (v, t) → Writable t.midway .byte ea (s.reg .a) →
    ∃ u w, Stored t.midway u .byte ea (s.reg .a) ∧ exec i s = .next w ∧ w.mem.get (regAddr s.psw .a) = v ∧
      Frame u w [regAddr s.psw .a] u.psw u.pc

/-! ### 16-bit data transfer, and the stack pointer -/

/-- `MOVW rp,#word`, `MOVW AX,rp`, `MOVW rp,AX`, `XCHW AX,rp`. -/
def Obligations.MovwRegisters : Prop :=
  ∀ (s : State) (rp : RegPair) (word : Word),
    (∃ t, exec (.movwRpImm rp word) s = .next t ∧ t.pair rp = word ∧ Frame s t (pairAddrs s.psw rp) s.psw s.pc) ∧
    (∃ t, exec (.movwAxRp rp) s = .next t ∧ t.pair .ax = s.pair rp ∧ Frame s t (pairAddrs s.psw .ax) s.psw s.pc) ∧
    (∃ t, exec (.movwRpAx rp) s = .next t ∧ t.pair rp = s.pair .ax ∧ Frame s t (pairAddrs s.psw rp) s.psw s.pc) ∧
    (∃ t, exec (.xchwAxRp rp) s = .next t ∧ t.pair .ax = s.pair rp ∧ t.pair rp = s.pair .ax ∧
      Frame s t (pairAddrs s.psw .ax ++ pairAddrs s.psw rp) s.psw s.pc)

/-- `MOVW AX,mem` in its three forms: AX takes the word read, low byte at the even address in RAM, or as a 16-bit access to
a register gives it (`loadWord`). -/
def Obligations.MovwLoads : Prop :=
  ∀ (s : State) (saddr sfr : Byte) (addr : Word) (i : Instr) (ea : Word),
    (i, ea) ∈ [(.movwAxSaddrp saddr, saddrEA saddr), (.movwAxSfrp sfr, sfrEA sfr), (.movwAxAddr16 addr, addr)] →
    (ea.getLsbD 0 = false → s.dev.area ea.toNat = .ram → s.dev.area (ea + 1).toNat = .ram →
      ∃ w, exec i s = .next w ∧ w.pair .ax = join (s.mem.get (ea + 1).toNat) (s.mem.get ea.toNat) ∧
        Frame s w (pairAddrs s.psw .ax) s.psw s.pc) ∧
    (∀ v t, s.loadWord ea = .next (v, t) →
      t.mem = s.mem ∧ ∃ w, exec i s = .next w ∧ w.pair .ax = v ∧ Frame t w (pairAddrs s.psw .ax) s.psw s.pc)

/-- `MOVW mem,AX` and `MOVW mem,#word` in their five forms: the word is stored at the form's effective address, low byte at the
even address in RAM, or as a 16-bit access to a register does it (`storeWord`), and no other byte of memory changes. -/
def Obligations.MovwStores : Prop :=
  ∀ (s : State) (saddr sfr : Byte) (addr word : Word) (i : Instr) (ea v : Word),
    (i, ea, v) ∈ [(.movwSaddrpImm saddr word, saddrEA saddr, word), (.movwSfrpImm sfr word, sfrEA sfr, word),
      (.movwSaddrpAx saddr, saddrEA saddr, s.pair .ax), (.movwSfrpAx sfr, sfrEA sfr, s.pair .ax),
      (.movwAddr16Ax addr, addr, s.pair .ax)] →
    (ea.getLsbD 0 = false → s.dev.area ea.toNat = .ram → s.dev.area (ea + 1).toNat = .ram →
      ∃ t, exec i s = .next t ∧ t.mem.get ea.toNat = lo v ∧ t.mem.get (ea + 1).toNat = hi v ∧
        Frame s t [ea.toNat, (ea + 1).toNat] s.psw s.pc) ∧
    (∀ t, s.storeWord ea v = .next t →
      exec i s = .next t ∧ (∀ a, a ≠ ea.toNat → a ≠ (ea + 1).toNat → t.mem.get a = s.mem.get a) ∧
        t.pc = s.pc ∧ t.draws = s.draws ∧ t.agenda = s.agenda ∧ t.between = s.between)

/-- `MOVW SP,#word`, `MOVW SP,AX`, `MOVW AX,SP`. -/
def Obligations.MovwSp : Prop :=
  ∀ (s : State) (word : Word),
    (∃ t, exec (.movwSpImm word) s = .next t ∧ Frame { s with sp := word } t [] s.psw s.pc) ∧
    (∃ t, exec .movwSpAx s = .next t ∧ Frame { s with sp := s.pair .ax } t [] s.psw s.pc) ∧
    (∃ t, exec .movwAxSp s = .next t ∧ t.pair .ax = s.sp ∧ Frame s t (pairAddrs s.psw .ax) s.psw s.pc)

/-! ### 8-bit operations -/

/-- The results and flags of the eight operations over exact integers (R231): sums and differences with the carry in, the
carry and borrow out of bit 7 and of bit 3, and logical results, which leave AC and CY alone. That the carry in takes part in
AC is the spec's decision D11 (log 17). -/
def Obligations.AluResults : Prop :=
  ∀ (a b : Byte) (c : Bool),
    let A : Int := a.toNat
    let B : Int := b.toNat
    let C : Int := if c then 1 else 0
    (∀ op k, (op, k) ∈ [(AluOp.add, (0 : Int)), (.addc, C)] →
      ((aluRun op a b c).value.toNat : Int) = (A + B + k) % 256 ∧
      (aluRun op a b c).cy = some (decide (255 < A + B + k)) ∧
      (aluRun op a b c).ac = some (decide (15 < A % 16 + B % 16 + k))) ∧
    (∀ op k, (op, k) ∈ [(AluOp.sub, (0 : Int)), (.cmp, 0), (.subc, C)] →
      ((aluRun op a b c).value.toNat : Int) = (A - B - k) % 256 ∧
      (aluRun op a b c).cy = some (decide (A - B - k < 0)) ∧
      (aluRun op a b c).ac = some (decide (A % 16 - B % 16 - k < 0))) ∧
    (∀ op v, (op, v) ∈ [(AluOp.and, a &&& b), (.or, a ||| b), (.xor, a ^^^ b)] →
      aluRun op a b c = ⟨v, none, none⟩)

/-- Where the flags of an operation go: Z to bit 6, AC to bit 4 and CY to bit 0 where they are written, every other bit of
PSW as before and bit 2 always 0 (the spec's decision D5, log 12). -/
def Obligations.FlagPlaces : Prop :=
  ∀ (psw : Byte) (z : Bool) (ac cy : Option Bool),
    let p := flagsInto psw z ac cy
    p.getLsbD 6 = z ∧ p.getLsbD 4 = ac.getD (psw.getLsbD 4) ∧ p.getLsbD 0 = cy.getD (psw.getLsbD 0) ∧
    p.getLsbD 2 = false ∧ p.getLsbD 7 = psw.getLsbD 7 ∧ p.getLsbD 5 = psw.getLsbD 5 ∧ p.getLsbD 3 = psw.getLsbD 3 ∧
    p.getLsbD 1 = psw.getLsbD 1

/-- The forms `A,#byte`, `A,r` and `r,A` of the eight operations: the left operand takes the result (not for CMP), the flags
go to PSW, and nothing else changes. -/
def Obligations.AluRegisters : Prop :=
  ∀ (s : State) (op : AluOp) (r r' dest : Reg8) (imm b : Byte) (i : Instr),
    (i, dest, b) ∈ [(aluAImm op imm, .a, imm), (aluAR op r, .a, s.reg r), (aluRA op r', r', s.reg .a)] →
    let o := aluRun op (s.reg dest) b s.cy
    ∃ t, exec i s = .next t ∧ t.mem.get (regAddr s.psw dest) = (if op = .cmp then s.reg dest else o.value) ∧
      Frame s t [regAddr s.psw dest] (flagsInto s.psw (o.value == 0) o.ac o.cy) s.pc

/-- The forms of the eight operations with a right operand in memory: A takes the result (not for CMP), the flags go to
PSW, and no other byte changes. -/
def Obligations.AluLoads : Prop :=
  ∀ (s t : State) (op : AluOp) (saddr disp : Byte) (addr : Word) (i : Instr) (ea : Word) (v : Byte),
    (i, ea) ∈ [(aluASaddr op saddr, saddrEA saddr), (aluAAddr16 op addr, addr), (aluAHl op, s.hlEA),
      (aluAHlByte op disp, s.hlByteEA disp), (aluAHlB op, s.hlBEA), (aluAHlC op, s.hlCEA)] →
    s.load .byte ea = .next (v, t) →
    let o := aluRun op (s.reg .a) v s.cy
    ∃ w, Loaded s t .byte ea v ∧ exec i s = .next w ∧
      w.mem.get (regAddr s.psw .a) = (if op = .cmp then s.reg .a else o.value) ∧
      Frame t w [regAddr s.psw .a] (flagsInto s.psw (o.value == 0) o.ac o.cy) s.pc

/-- The form `saddr,#byte` of the eight operations: the result is stored where the operand was read, then the flags are put
on top of PSW (the spec's decision D10, log 16); CMP stores nothing. Peripherals may act between the read and the write
(`midway`, R146). -/
def Obligations.AluStores : Prop :=
  ∀ (s t : State) (op : AluOp) (saddr imm v : Byte),
    s.load .byte (saddrEA saddr) = .next (v, t) →
    let o := aluRun op v imm s.cy
    (op ≠ .cmp → Writable t.midway .byte (saddrEA saddr) o.value →
      ∃ u w, Stored t.midway u .byte (saddrEA saddr) o.value ∧ exec (aluSaddrImm op saddr imm) s = .next w ∧
        Frame u w [] (flagsInto u.psw (o.value == 0) o.ac o.cy) s.pc) ∧
    (op = .cmp → ∃ w, exec (aluSaddrImm op saddr imm) s = .next w ∧
      Frame t w [] (flagsInto s.psw (o.value == 0) o.ac o.cy) s.pc)

/-! ### 16-bit operations, multiplication, division, increment, decrement -/

/-- `ADDW`, `SUBW`, `CMPW`: AX (not for CMPW), Z and CY by the exact result; AC takes whatever value the free draw
has (the model's form of U7, log 25). -/
def Obligations.WordOperations : Prop :=
  ∀ (s : State) (word : Word),
    let ax := s.pair .ax
    (∃ t b, exec (.addwAxImm word) s = .next t ∧ t.pair .ax = ax + word ∧
      Frame { s with draws := t.draws } t (pairAddrs s.psw .ax)
        (flagsInto s.psw (ax + word == 0) (some b) (some (decide (0xFFFF < ax.toNat + word.toNat)))) s.pc) ∧
    (∃ t b, exec (.subwAxImm word) s = .next t ∧ t.pair .ax = ax - word ∧
      Frame { s with draws := t.draws } t (pairAddrs s.psw .ax)
        (flagsInto s.psw (ax - word == 0) (some b) (some (decide (ax.toNat < word.toNat)))) s.pc) ∧
    (∃ t b, exec (.cmpwAxImm word) s = .next t ∧
      Frame { s with draws := t.draws } t []
        (flagsInto s.psw (decide (ax = word)) (some b) (some (decide (ax.toNat < word.toNat)))) s.pc)

/-- `MULU X` and `DIVUW C`: the exact product; for C not 0 the quotient in AX and the remainder in C; for C = 0 FFFFH in
AX and X in C (the spec's general knowledge D13, log 19). No flag changes. -/
def Obligations.MultiplyDivide : Prop :=
  ∀ s : State,
    (∃ t, exec .mulu s = .next t ∧ (t.pair .ax).toNat = (s.reg .a).toNat * (s.reg .x).toNat ∧
      Frame s t (pairAddrs s.psw .ax) s.psw s.pc) ∧
    (∃ t, exec .divuw s = .next t ∧
      (s.reg .c ≠ 0 → (t.pair .ax).toNat * (s.reg .c).toNat + (t.reg .c).toNat = (s.pair .ax).toNat ∧
        (t.reg .c).toNat < (s.reg .c).toNat) ∧
      (s.reg .c = 0 → t.pair .ax = 0xFFFF ∧ t.reg .c = s.reg .x) ∧
      Frame s t (regAddr s.psw .c :: pairAddrs s.psw .ax) s.psw s.pc)

/-- `INC r`, `DEC r`: the register modulo 256, Z and AC, CY unchanged. `INCW rp`, `DECW rp`: the pair modulo 2^16, no
flag. -/
def Obligations.IncDecRegister : Prop :=
  ∀ (s : State) (r : Reg8) (rp : RegPair),
    (∃ t, exec (.incR r) s = .next t ∧ t.mem.get (regAddr s.psw r) = s.reg r + 1 ∧
      Frame s t [regAddr s.psw r] (flagsInto s.psw (s.reg r + 1 == 0) (some (s.reg r &&& 0x0F == 0x0F)) none) s.pc) ∧
    (∃ t, exec (.decR r) s = .next t ∧ t.mem.get (regAddr s.psw r) = s.reg r - 1 ∧
      Frame s t [regAddr s.psw r] (flagsInto s.psw (s.reg r - 1 == 0) (some (s.reg r &&& 0x0F == 0)) none) s.pc) ∧
    (∃ t, exec (.incwRp rp) s = .next t ∧ t.pair rp = s.pair rp + 1 ∧ Frame s t (pairAddrs s.psw rp) s.psw s.pc) ∧
    (∃ t, exec (.decwRp rp) s = .next t ∧ t.pair rp = s.pair rp - 1 ∧ Frame s t (pairAddrs s.psw rp) s.psw s.pc)

/-- `INC saddr`, `DEC saddr`: a read, a write of the byte plus or minus 1 at the same address, then Z and AC
(on top of PSW where the byte is PSW: the spec's decision D10, log 16). Peripherals may act between the read and the write
(`midway`, R146). -/
def Obligations.IncDecMemory : Prop :=
  ∀ (s t : State) (saddr v : Byte), s.load .byte (saddrEA saddr) = .next (v, t) →
    (Writable t.midway .byte (saddrEA saddr) (v + 1) →
      ∃ u w, Stored t.midway u .byte (saddrEA saddr) (v + 1) ∧ exec (.incSaddr saddr) s = .next w ∧
        Frame u w [] (flagsInto u.psw (v + 1 == 0) (some (v &&& 0x0F == 0x0F)) none) s.pc) ∧
    (Writable t.midway .byte (saddrEA saddr) (v - 1) →
      ∃ u w, Stored t.midway u .byte (saddrEA saddr) (v - 1) ∧ exec (.decSaddr saddr) s = .next w ∧
        Frame u w [] (flagsInto u.psw (v - 1 == 0) (some (v &&& 0x0F == 0)) none) s.pc)

/-! ### Rotates and decimal adjustment -/

/-- `ROR`, `ROL`, `RORC`, `ROLC`: bit by bit; CY takes the bit that leaves, and nothing else changes. -/
def Obligations.Rotates : Prop :=
  ∀ s : State,
    let a := s.reg .a
    (∀ i top, (i, top) ∈ [(Instr.rorA, a.getLsbD 0), (.rorcA, s.cy)] →
      ∃ t, exec i s = .next t ∧ (t.reg .a).getLsbD 7 = top ∧ (∀ k < 7, (t.reg .a).getLsbD k = a.getLsbD (k + 1)) ∧
        Frame s t [regAddr s.psw .a] (pswValue (setBit s.psw 0 (a.getLsbD 0))) s.pc) ∧
    (∀ i low, (i, low) ∈ [(Instr.rolA, a.getLsbD 7), (.rolcA, s.cy)] →
      ∃ t, exec i s = .next t ∧ (t.reg .a).getLsbD 0 = low ∧ (∀ k < 7, (t.reg .a).getLsbD (k + 1) = a.getLsbD k) ∧
        Frame s t [regAddr s.psw .a] (pswValue (setBit s.psw 0 (a.getLsbD 7))) s.pc)

/-- `ROR4 [HL]`, `ROL4 [HL]`: the 12-bit digit rotate through the low digit of A and the two digits of the byte at HL, all
taken before the instruction. The high digit of A stays; where HL addresses A itself, `ROL4` keeps, in the order of R275, the
one that its write has left there. A of the bank selected at the start is written (the model's reading, log 65). Peripherals
may act between the read and the write (`midway`, R146). -/
def Obligations.DigitRotates : Prop :=
  ∀ (s t : State) (m : Byte), s.load .byte s.hlEA = .next (m, t) →
    (∀ v, v = BitVec.ofNat 8 ((s.reg .a).toNat % 16 * 16 + m.toNat / 16) → Writable t.midway .byte s.hlEA v →
      ∃ u w, Stored t.midway u .byte s.hlEA v ∧ exec .ror4Hl s = .next w ∧
        (w.mem.get (regAddr s.psw .a)).toNat = (s.reg .a).toNat / 16 * 16 + m.toNat % 16 ∧
        Frame u w [regAddr s.psw .a] u.psw u.pc) ∧
    (∀ v, v = BitVec.ofNat 8 (m.toNat % 16 * 16 + (s.reg .a).toNat % 16) → Writable t.midway .byte s.hlEA v →
      ∃ u w, Stored t.midway u .byte s.hlEA v ∧ exec .rol4Hl s = .next w ∧
        (w.mem.get (regAddr s.psw .a)).toNat = (u.mem.get (regAddr s.psw .a)).toNat / 16 * 16 + m.toNat / 16 ∧
        Frame u w [regAddr s.psw .a] u.psw u.pc)

/-- `ADJBA`, `ADJBS`: the rows of the tables of R276 and R277 (which the spec takes from general knowledge, D12,
log 18). -/
def Obligations.DecimalAdjust : Prop :=
  ∀ s : State,
    let a := s.reg .a
    let l := a.toNat % 16
    let h := a.toNat / 16
    (∀ (row : Prop) (d : Byte) (cy ac : Bool),
      (row, d, cy, ac) ∈ [(l ≤ 9 ∧ s.ac = false ∧ h ≤ 9 ∧ s.cy = false, (0x00 : Byte), false, false),
        (l ≤ 9 ∧ s.ac = false ∧ (10 ≤ h ∨ s.cy = true), 0x60, true, false),
        (10 ≤ l ∧ s.ac = false ∧ h < 9 ∧ s.cy = false, 0x06, false, true),
        (10 ≤ l ∧ s.ac = false ∧ (9 ≤ h ∨ s.cy = true), 0x66, true, true),
        (s.ac = true ∧ h ≤ 9 ∧ s.cy = false, 0x06, false, false),
        (s.ac = true ∧ (10 ≤ h ∨ s.cy = true), 0x66, true, false)] →
      row → ∃ t, exec .adjba s = .next t ∧ t.mem.get (regAddr s.psw .a) = a + d ∧
        Frame s t [regAddr s.psw .a] (flagsInto s.psw (a + d == 0) (some ac) (some cy)) s.pc) ∧
    (∀ (ac cy : Bool) (d : Byte),
      (ac, cy, d) ∈ [(false, false, (0x00 : Byte)), (false, true, 0x60), (true, false, 0x06), (true, true, 0x66)] →
      s.ac = ac → s.cy = cy → ∃ t, exec .adjbs s = .next t ∧ t.mem.get (regAddr s.psw .a) = a - d ∧
        Frame s t [regAddr s.psw .a] (flagsInto s.psw (a - d == 0) (some false) (some cy)) s.pc)

/-! ### Bit manipulation -/

/-- `MOV1`, `AND1`, `OR1`, `XOR1 CY,X.bit` for X in memory: CY from the bit of the byte read, nothing else changes. -/
def Obligations.BitLoads : Prop :=
  ∀ (s t : State) (saddr sfr : Byte) (n : BitNo) (v : Byte) (i : Instr) (ea : Word) (f : Bool → Bool → Bool),
    (i, ea, f) ∈ [(.mov1CySaddr saddr n, saddrEA saddr, fun _ b => b), (.mov1CySfr sfr n, sfrEA sfr, fun _ b => b),
      (.mov1CyHl n, s.hlEA, fun _ b => b), (.and1CySaddr saddr n, saddrEA saddr, and), (.and1CySfr sfr n, sfrEA sfr, and),
      (.and1CyHl n, s.hlEA, and), (.or1CySaddr saddr n, saddrEA saddr, or), (.or1CySfr sfr n, sfrEA sfr, or),
      (.or1CyHl n, s.hlEA, or), (.xor1CySaddr saddr n, saddrEA saddr, xor), (.xor1CySfr sfr n, sfrEA sfr, xor),
      (.xor1CyHl n, s.hlEA, xor)] →
    s.load .bit ea = .next (v, t) →
    ∃ w, Loaded s t .bit ea v ∧ exec i s = .next w ∧
      Frame t w [] (pswValue (setBit s.psw 0 (f s.cy (v.getLsbD n.val)))) s.pc

/-- `MOV1`, `AND1`, `OR1`, `XOR1 CY,X.bit` for X = A and X = PSW, the latter holding interrupt requests, and `SET1 CY`,
`CLR1 CY`, `NOT1 CY`. -/
def Obligations.CarryOperations : Prop :=
  ∀ (s : State) (n : BitNo) (i : Instr) (b : Bool),
    let x := (s.reg .a).getLsbD n.val
    let p := s.psw.getLsbD n.val
    ((i, b) ∈ [(.mov1CyA n, x), (.and1CyA n, s.cy && x), (.or1CyA n, s.cy || x), (.xor1CyA n, xor s.cy x),
        (.set1Cy, true), (.clr1Cy, false), (.not1Cy, !s.cy)] →
      ∃ t, exec i s = .next t ∧ Frame s t [] (pswValue (setBit s.psw 0 b)) s.pc) ∧
    ((i, b) ∈ [(.mov1CyPsw n, p), (.and1CyPsw n, s.cy && p), (.or1CyPsw n, s.cy || p), (.xor1CyPsw n, xor s.cy p)] →
      ∃ t, exec i s = .next t ∧ Frame s.holding t [] (pswValue (setBit s.psw 0 b)) s.pc)

/-- `MOV1 X.bit,CY`, `SET1 X.bit`, `CLR1 X.bit` for X in memory: the byte is read, one bit of it changed, and the whole byte
written back at the same address. The moves of the peripherals that fall between the read and the write are made there
(R146), and an interrupt request flag that hardware sets between them is not lost, which R285 says of CLR1; that it holds for SET1
and MOV1 too, and how the moves between are made (`midway`, `raisedMidway`), is the model's choice (log 90). With none between,
nothing is added. -/
def Obligations.BitStores : Prop :=
  ∀ (s t : State) (saddr sfr : Byte) (n : BitNo) (v : Byte) (i : Instr) (ea : Word) (b : Bool),
    ((i, ea, b) ∈ [(.mov1SaddrCy saddr n, saddrEA saddr, s.cy), (.mov1SfrCy sfr n, sfrEA sfr, s.cy), (.mov1HlCy n, s.hlEA, s.cy),
      (.set1Saddr saddr n, saddrEA saddr, true), (.set1Sfr sfr n, sfrEA sfr, true), (.set1Hl n, s.hlEA, true),
      (.clr1Saddr saddr n, saddrEA saddr, false), (.clr1Sfr sfr n, sfrEA sfr, false), (.clr1Hl n, s.hlEA, false)] →
    s.load .bit ea = .next (v, t) → Writable t.midway .bit ea (setBit v n.val b ||| t.raisedMidway .bit ea) →
    ∃ w, Loaded s t .bit ea v ∧ exec i s = .next w ∧
      Stored t.midway w .bit ea (setBit v n.val b ||| t.raisedMidway .bit ea)) ∧
    (s.between = [] → s.midway = s ∧ s.raisedMidway .bit ea = 0) ∧
    (∀ (m : AgentMove) (k : Nat) (r : Sfr), s.between = [m] → (k, r) ∈ [(0, Sfr.IF0L), (1, .IF0H), (2, .IF1L), (3, .IF1H)] →
      s.midway = { s with dev := s.dev.move m, between := [] } ∧
      ∀ j < 8, (s.raisedMidway .bit (0xFFE0 + BitVec.ofNat 16 k)).getLsbD j =
        (((s.dev.move m).rd r).getLsbD j && !(s.dev.rd r).getLsbD j))

/-- `MOV1`, `SET1`, `CLR1` on `A.bit` and on `PSW.bit`: exactly the named bit takes the value, PSW's bit 2 stays 0 (the spec's
decision D5, log 12), and the PSW forms hold interrupt requests. -/
def Obligations.BitRegisters : Prop :=
  ∀ (s : State) (n : BitNo) (i : Instr) (b : Bool),
    ((i, b) ∈ [(.mov1ACy n, s.cy), (.set1A n, true), (.clr1A n, false)] →
      ∃ t, exec i s = .next t ∧ (t.reg .a).getLsbD n.val = b ∧
        (∀ k < 8, k ≠ n.val → (t.reg .a).getLsbD k = (s.reg .a).getLsbD k) ∧
        Frame s t [regAddr s.psw .a] s.psw s.pc) ∧
    ((i, b) ∈ [(.mov1PswCy n, s.cy), (.set1Psw n, true), (.clr1Psw n, false)] →
      ∃ t, exec i s = .next t ∧ t.psw.getLsbD n.val = (b && n != 2) ∧
        (∀ k < 8, k ≠ n.val → t.psw.getLsbD k = (s.psw.getLsbD k && k != 2)) ∧
        Frame s.holding t [] t.psw s.pc)

/-! ### Calls, returns, the stack -/

/-- `CALL`, `CALLF`, `CALLT` on a stack in RAM: the return address is pushed high byte first, SP falls by 2, and PC is the
target. -/
def Obligations.Calls : Prop :=
  ∀ (s : State) (addr : Word) (page : BitNo) (low : Byte) (entry : Fin 32) (i : Instr) (target : Word),
    (i, target) ∈ [(.call addr, addr), (.callf page low, BitVec.ofNat 16 (0x0800 + 256 * page.val + low.toNat)),
      (.callt entry, join (s.flashByte (0x0041 + 2 * entry.val)) (s.flashByte (0x0040 + 2 * entry.val)))] →
    StackBelow s s.sp 2 →
    ∃ t, exec i s = .next t ∧ t.mem.get (s.sp - 1).toNat = hi s.pc ∧ t.mem.get (s.sp - 2).toNat = lo s.pc ∧
      Frame { s with sp := s.sp - 2 } t [(s.sp - 1).toNat, (s.sp - 2).toNat] s.psw target

/-- `BRK` on a stack in RAM: PSW and then PC are pushed, SP falls by 3, IE is cleared, and PC is the word at 003EH; ISP and
the other flags stay. -/
def Obligations.SoftwareInterrupt : Prop :=
  ∀ s : State, StackBelow s s.sp 3 →
    ∃ t, exec .brk s = .next t ∧ t.mem.get (s.sp - 1).toNat = s.psw ∧ t.mem.get (s.sp - 2).toNat = hi s.pc ∧
      t.mem.get (s.sp - 3).toNat = lo s.pc ∧ t.psw.getLsbD 7 = false ∧ t.psw.getLsbD 1 = s.psw.getLsbD 1 ∧
      Frame { s with sp := s.sp - 3 } t [(s.sp - 1).toNat, (s.sp - 2).toNat, (s.sp - 3).toNat]
        (pswValue (setBit s.psw 7 false)) (join (s.flashByte 0x003F) (s.flashByte 0x003E))

/-- `RET`, `RETI`, `RETB` on a stack in RAM: PC from SP and SP + 1, for RETI and RETB then the whole PSW but bit 2 (D5, log 12)
from SP + 2; both have this one effect (D14, log 21) and hold interrupt requests. -/
def Obligations.Returns : Prop :=
  ∀ s : State,
    let pc := join (s.mem.get (s.sp + 1).toNat) (s.mem.get s.sp.toNat)
    (StackAbove s s.sp 2 → ∃ t, exec .ret s = .next t ∧ Frame { s with sp := s.sp + 2 } t [] s.psw pc) ∧
    (StackAbove s s.sp 3 → ∀ i ∈ [Instr.reti, .retb],
      ∃ t, exec i s = .next t ∧
        Frame { s.holding with sp := s.sp + 3 } t [] (pswValue (s.mem.get (s.sp + 2).toNat)) pc)

/-- `PUSH PSW`, `PUSH rp`, `POP PSW`, `POP rp` on a stack in RAM; the PSW forms hold interrupt requests, and bit 2
of PSW stays 0 (D5, log 12). Where the stack runs into the pair itself, the second byte is what the first has left there
(the operations one after the other, R145). -/
def Obligations.PushPop : Prop :=
  ∀ (s : State) (rp : RegPair),
    let low := regAddr s.psw (lowReg rp)
    let high := regAddr s.psw (highReg rp)
    (StackBelow s s.sp 1 → ∃ t, exec .pushPsw s = .next t ∧ t.mem.get (s.sp - 1).toNat = s.psw ∧
      Frame { s.holding with sp := s.sp - 1 } t [(s.sp - 1).toNat] s.psw s.pc) ∧
    (StackBelow s s.sp 2 → ∃ t, exec (.pushRp rp) s = .next t ∧ t.mem.get (s.sp - 1).toNat = hi (s.pair rp) ∧
      t.mem.get (s.sp - 2).toNat = (if low = (s.sp - 1).toNat then hi (s.pair rp) else lo (s.pair rp)) ∧
      Frame { s with sp := s.sp - 2 } t [(s.sp - 1).toNat, (s.sp - 2).toNat] s.psw s.pc) ∧
    (StackAbove s s.sp 1 → ∃ t, exec .popPsw s = .next t ∧
      Frame { s.holding with sp := s.sp + 1 } t [] (pswValue (s.mem.get s.sp.toNat)) s.pc) ∧
    (StackAbove s s.sp 2 →
      let h := s.mem.get (s.sp + 1).toNat
      ∃ t, exec (.popRp rp) s = .next t ∧ t.pair rp = join h (if high = s.sp.toNat then h else s.mem.get s.sp.toNat) ∧
        Frame { s with sp := s.sp + 2 } t (pairAddrs s.psw rp) s.psw s.pc)

/-! ### Branches -/

/-- `BR` in its three forms and `BC`, `BNC`, `BZ`, `BNZ`: PC is the target, or stays where the condition is false; a relative
target is the signed displacement added to the address after the instruction modulo 2^16 (the spec's decision D4, log 11).
Nothing else changes. -/
def Obligations.Branches : Prop :=
  ∀ (s : State) (addr : Word) (disp : Byte) (i : Instr) (c : Bool) (target : Word),
    let rel := BitVec.ofInt 16 (s.pc.toNat + disp.toInt)
    (i, c, target) ∈ [(.brAddr16 addr, true, addr), (.brRel disp, true, rel), (.brAx, true, s.pair .ax),
      (.bcRel disp, s.psw.getLsbD 0, rel), (.bncRel disp, !s.psw.getLsbD 0, rel), (.bzRel disp, s.psw.getLsbD 6, rel),
      (.bnzRel disp, !s.psw.getLsbD 6, rel)] →
    ∃ t, exec i s = .next t ∧ Frame s t [] s.psw (if c then target else s.pc)

/-- `BT` and `BF` on a bit in memory: the byte is read once and nothing is written. -/
def Obligations.BitBranches : Prop :=
  ∀ (s t : State) (saddr sfr disp : Byte) (n : BitNo) (v : Byte) (i : Instr) (ea : Word) (c : Bool),
    (i, ea, c) ∈ [(.btSaddr saddr n disp, saddrEA saddr, true), (.btSfr sfr n disp, sfrEA sfr, true), (.btHl n disp, s.hlEA, true),
      (.bfSaddr saddr n disp, saddrEA saddr, false), (.bfSfr sfr n disp, sfrEA sfr, false), (.bfHl n disp, s.hlEA, false)] →
    s.load .bit ea = .next (v, t) →
    ∃ w, Loaded s t .bit ea v ∧ exec i s = .next w ∧
      Frame t w [] s.psw (if v.getLsbD n.val = c then s.pc + sext disp else s.pc)

/-- `BT`, `BF`, `BTCLR` on `A.bit` and on `PSW.bit`; the PSW forms hold interrupt requests, and BTCLR clears the bit only
where it branches. -/
def Obligations.RegisterBitBranches : Prop :=
  ∀ (s : State) (n : BitNo) (disp : Byte),
    let x := (s.reg .a).getLsbD n.val
    let p := s.psw.getLsbD n.val
    let far := s.pc + sext disp
    (∃ t, exec (.btA n disp) s = .next t ∧ Frame s t [] s.psw (if x then far else s.pc)) ∧
    (∃ t, exec (.bfA n disp) s = .next t ∧ Frame s t [] s.psw (if x then s.pc else far)) ∧
    (∃ t, exec (.btPsw n disp) s = .next t ∧ Frame s.holding t [] s.psw (if p then far else s.pc)) ∧
    (∃ t, exec (.bfPsw n disp) s = .next t ∧ Frame s.holding t [] s.psw (if p then s.pc else far)) ∧
    (∃ t, exec (.btclrA n disp) s = .next t ∧
      t.mem.get (regAddr s.psw .a) = (if x then setBit (s.reg .a) n.val false else s.reg .a) ∧
      Frame s t [regAddr s.psw .a] s.psw (if x then far else s.pc)) ∧
    (∃ t, exec (.btclrPsw n disp) s = .next t ∧
      Frame s.holding t [] (if p then pswValue (setBit s.psw n.val false) else s.psw) (if p then far else s.pc))

/-- `BTCLR` on a bit in memory: where the bit is 1 the byte is written back with the bit cleared and the branch is taken;
where it is 0 nothing is written (the spec's decision D15, log 22). Peripherals may act between the read and the write
(R146), and an interrupt request flag they set is not lost: R285 says so of CLR1, and that it holds for BTCLR, and how the moves
between are made (`midway`, `raisedMidway`), is the model's choice (log 90). -/
def Obligations.TestAndClear : Prop :=
  ∀ (s t : State) (saddr sfr disp : Byte) (n : BitNo) (v : Byte) (i : Instr) (ea : Word),
    (i, ea) ∈ [(.btclrSaddr saddr n disp, saddrEA saddr), (.btclrSfr sfr n disp, sfrEA sfr), (.btclrHl n disp, s.hlEA)] →
    s.load .bit ea = .next (v, t) →
    let b := setBit v n.val false ||| t.raisedMidway .bit ea
    (v.getLsbD n.val = true → Writable t.midway .bit ea b →
      ∃ u w, Stored t.midway u .bit ea b ∧ exec i s = .next w ∧ Frame u w [] u.psw (s.pc + sext disp)) ∧
    (v.getLsbD n.val = false → exec i s = .next t)

/-- `DBNZ`: the register or byte falls by 1 modulo 256, the branch is taken unless it becomes 0, and no flag changes.
Peripherals may act between the read and the write of the byte (`midway`, R146). -/
def Obligations.Loops : Prop :=
  ∀ (s : State) (disp : Byte),
    (∀ i r, (i, r) ∈ [(Instr.dbnzB disp, Reg8.b), (.dbnzC disp, .c)] →
      ∃ t, exec i s = .next t ∧ t.reg r = s.reg r - 1 ∧
        Frame s t [regAddr s.psw r] s.psw (if s.reg r = 1 then s.pc else s.pc + sext disp)) ∧
    (∀ saddr v t, s.load .byte (saddrEA saddr) = .next (v, t) → Writable t.midway .byte (saddrEA saddr) (v - 1) →
      ∃ u w, Stored t.midway u .byte (saddrEA saddr) (v - 1) ∧ exec (.dbnzSaddr saddr disp) s = .next w ∧
        Frame u w [] u.psw (if v = 1 then s.pc else s.pc + sext disp))

/-! ### CPU control and standby -/

/-- `SEL RBn`, `NOP`, `EI`, `DI`: SEL selects bank n and changes no other bit of PSW, NOP changes nothing, EI and DI write IE
and hold interrupt requests. -/
def Obligations.Control : Prop :=
  ∀ (s : State) (n : Fin 4), s.psw.getLsbD 2 = false →
    (∃ t, exec (.sel n) s = .next t ∧ bankOf t.psw = n.val ∧
      (∀ k ∈ [0, 1, 2, 4, 6, 7], t.psw.getLsbD k = s.psw.getLsbD k) ∧ Frame s t [] t.psw s.pc) ∧
    exec .nop s = .next s ∧
    (∃ t, exec .ei s = .next t ∧ Frame s.holding t [] (s.psw ||| 0x80) s.pc) ∧
    (∃ t, exec .di s = .next t ∧ Frame s.holding t [] (s.psw &&& 0x7F) s.pc)

/-- `HALT` and `STOP`: the standby mode is entered with the CPU's registers and memory kept; STOP stops both main
oscillators' clocks and clears OSTC, and is refused on the subsystem clock (the spec's treatment U8, log 32). The model's choice: STOP is
carried out also with RSTS = 0, before which the rules do not execute it (log 53), with a clock switch still pending (log 95), with
ADDPON or ADDCE = 1 on a sampling clock divided from fPRS (log 138), and with the real-time counter just started or its wait not over
(log 150, 151); and in HALT a pending clock switch stays pending (log 123). -/
def Obligations.Standby : Prop :=
  ∀ s : State,
    (∃ t, exec .halt s = .next t ∧ t = { s with dev := t.dev } ∧ t.dev = { s.dev with mode := .halt }) ∧
    (s.dev.clock.cls = false → ∃ t, exec .stop s = .next t ∧ t = { s with dev := t.dev } ∧ t.dev.mode = .stop ∧
      t.dev.ostc = 0 ∧ t.dev.rhRuns = false ∧ t.dev.xhRuns = false ∧ t.dev.sfrs = s.dev.sfrs ∧ t.dev.ram = s.dev.ram) ∧
    (s.dev.clock.cls = true → exec .stop s = .refused .stopOnSubclock)

/-- In HALT mode the CPU's turn changes nothing but to let the moves meant for the middle of its instruction come next; and a
move after which no unmasked request is pending and no reset is requested leaves HALT mode held (turns and moves are the
model's choice: log 9, 64, 90). -/
def Obligations.HaltHeld : Prop :=
  ∀ s : State, s.dev.mode = .halt →
    (s.between = [] → s.agenda = [] → step s = .next s) ∧
    (∀ ms rest, s.between = [] → s.agenda = .cpu ms :: rest →
      step s = .next { s with agenda := ms.map Move.agent ++ rest }) ∧
    (∀ m rest, s.agenda = .agent m :: rest → (s.dev.move m).resetReq = none → (s.dev.move m).wakes = false →
      (s.dev.move m).mode = .halt ∧ step s = .next { s with agenda := rest, dev := s.dev.move m })

/-! ### Interrupts -/

/-- Maskable interrupts (R420). A request is chosen exactly where one is acceptable (flag 1, mask 0); the chosen one is of priority
flag 0 if any acceptable one is, and the lowest in default priority among those of its priority flag. It is accepted when IE = 1 and, for priority flag
1, ISP = 1: the request flag is cleared, PSW and PC are pushed, IE is cleared, ISP takes the priority flag, PC is loaded from
the vector 0004H + 2n (R401). Otherwise nothing happens. The clause of an acceptance has the stack in RAM. -/
def Obligations.MaskableInterrupt : Prop :=
  ∀ s : State,
    let pending := fun k => (s.dev.rd (flagReg (k / 8))).getLsbD (k % 8) && !(s.dev.rd (maskReg (k / 8))).getLsbD (k % 8)
    let prio := fun k => (s.dev.rd (prioReg (k / 8))).getLsbD (k % 8)
    (s.dev.chosenRequest = none → (∀ k < 29, pending k = false) ∧ s.acceptInterrupt = .next s) ∧
    ∀ (n : Nat) (low : Bool), s.dev.chosenRequest = some (n, low) →
    (n < 29 ∧ pending n = true ∧ prio n = low ∧
      ∀ k < 29, pending k = true → (prio k = low → n ≤ k) ∧ (prio k = false → low = false)) ∧
    ((s.psw.getLsbD 7 = true ∧ (low = true → s.psw.getLsbD 1 = true)) → StackBelow s s.sp 3 →
      ∃ t, s.acceptInterrupt = .next t ∧ (t.dev.rd (flagReg (n / 8))).getLsbD (n % 8) = false ∧
        t.mem.get (s.sp - 1).toNat = s.psw ∧ t.mem.get (s.sp - 2).toNat = hi s.pc ∧ t.mem.get (s.sp - 3).toNat = lo s.pc ∧
        t.psw.getLsbD 7 = false ∧ t.psw.getLsbD 1 = low ∧ (∀ k ∈ [0, 3, 4, 5, 6], t.psw.getLsbD k = s.psw.getLsbD k) ∧
        Frame { s with sp := s.sp - 3, dev := s.dev.putBit (flagReg (n / 8)) (n % 8) false } t
          [(s.sp - 1).toNat, (s.sp - 2).toNat, (s.sp - 3).toNat] t.psw
          (join (s.flashByte (0x0005 + 2 * n)) (s.flashByte (0x0004 + 2 * n)))) ∧
    (¬(s.psw.getLsbD 7 = true ∧ (low = true → s.psw.getLsbD 1 = true)) → s.acceptInterrupt = .next s)

/-- `raise` sets exactly the request flag of its source, whatever IE, ISP, the mask and the priority flags are. -/
def Obligations.RequestFlags : Prop :=
  ∀ (d : Devices) (src : Source),
    let r := flagReg (src.number / 8)
    let n := src.number % 8
    ((d.raise src).rd r).getLsbD n = true ∧ (∀ k < 8, k ≠ n → ((d.raise src).rd r).getLsbD k = (d.rd r).getLsbD k) ∧
    (∀ q : Sfr, q ≠ r → (d.raise src).rd q = d.rd q) ∧ d.raise src = { d with sfrs := (d.raise src).sfrs }

/-- The boundary after an interrupt-request-hold instruction accepts nothing and ends the hold; without a hold, the boundary of
a running CPU with no request to accept only counts the clocks, advances the clock switches and ends the moment at the pins, and
with one it makes the acceptance (the model's choice of the moment: D16, log 23, 24, 63, 74). -/
def Obligations.Boundary : Prop :=
  ∀ (s : State) (n : Nat),
    let t := { s with cpuClocks := s.cpuClocks + n, dev := (s.dev.clockSwitches n).momentPasses s.dev }
    t.dev.resetReq = none → t.dev.mode = .run →
    (s.hold = true → s.boundary n = .next { t with hold := false }) ∧
    (s.hold = false → t.dev.chosenRequest = none → s.boundary n = .next t) ∧
    (s.hold = false → ∀ r, t.dev.chosenRequest = some r →
      s.boundary n = andThen t.acceptInterrupt fun u => .next (State.settle { u with hold := false }))

/-- Every access to FFE0H to FFEBH sets the hold condition, whatever the form of the access (the spec's decision D17, log 24). -/
def Obligations.RequestRegistersHold : Prop :=
  ∀ (s t : State) (u : AccessUnit) (ea : Word) (v : Byte) (w : Word), 0xFFE0 ≤ ea.toNat → ea.toNat ≤ 0xFFEB →
    (s.load u ea = .next (v, t) → t.hold = true) ∧ (s.store u ea v = .next t → t.hold = true) ∧
    (s.loadWord ea = .next (w, t) → t.hold = true) ∧ (s.storeWord ea w = .next t → t.hold = true)

/-! ### Reset -/

/-- The CPU after a reset: PC from the reset vector (already while the reset signal lasts, where the spec calls PC undefined: the
model's choice, log 193), PSW = 02H, and RAM kept in HALT and STOP
(LCD display and buffer RAM too: the spec's reading, log 26); that it is kept also in the wait after STOP and through further
requests while the reset signal lasts is the model's choice (DEDUCED, log 26); flash is always kept, and the boot flag takes effect. -/
def Obligations.ResetSequence : Prop :=
  ∀ (s : State) (c : ResetCause),
    let t := s.takeReset c
    t.pc = join (t.flashByte 1) (t.flashByte 0) ∧ t.psw = 0x02 ∧ t.hold = false ∧
    t.dev.chip.bootActive = s.dev.chip.bootFlag ∧
    (∀ a < 0xF000, t.mem.get a = s.mem.get a) ∧
    (s.dev.mode ≠ .run → t.mem = s.mem ∧ t.dev.ram = s.dev.ram) ∧
    t.dev.rd .MK0L = 0xFF ∧ t.dev.rd .IF0L = 0x00 ∧ t.dev.rd .PR0L = 0xFF ∧ t.dev.rd .IMS = 0xCF ∧ t.dev.rd .PCC = 0x01

/-- RESF, LVIM and LVIS after each cause of a reset (R871). -/
def Obligations.ResetCauses : Prop :=
  ∀ (s : State) (c : ResetCause),
    let d := (s.takeReset c).dev
    (d.rd .RESF).getLsbD 4 = (match c with
      | .pin | .poc => false
      | .watchdog => true
      | .lvi => (s.dev.rd .RESF).getLsbD 4) ∧
    (d.rd .RESF).getLsbD 0 = (match c with
      | .pin | .poc => false
      | .watchdog => (s.dev.rd .RESF).getLsbD 0
      | .lvi => true) ∧
    d.rd .LVIM = (if c = .lvi then s.dev.rd .LVIM else 0) ∧ d.rd .LVIS = (if c = .lvi then s.dev.rd .LVIS else 0)

/-- Values that the spec gives at reset, in `State.reset` (a uPD78F0495, the model's choice, log 3). -/
def Obligations.ResetValues : Prop :=
  State.reset.psw = 0x02 ∧ State.reset.dev.mode = .run ∧ State.reset.dev.rd .IMS = 0xCF ∧ State.reset.dev.rd .IXS = 0x0C ∧
  State.reset.dev.rd .PM1 = 0xFF ∧ State.reset.dev.rd .OSTS = 0x05 ∧ State.reset.dev.rd .MOC = 0x80 ∧
  State.reset.dev.rd .HOUR = 0x12 ∧ State.reset.dev.rd .ASICL6 = 0x16 ∧ State.reset.dev.rd .MC0CTL2 = 0x1F ∧
  State.reset.dev.rdWord .ADCR = 0 ∧ State.reset.pc = State.reset.tableWord 0

/-! ### Invariant -/

/-- Every step keeps the invariant: memory in canonical form, PSW bit 2 zero (D5, log 12), no hold, no reset request and no move
meant for the middle of an instruction left over. (All but PSW are the model's own terms: log 23, 24, 67, 90.) -/
def Obligations.StepKeepsInv : Prop := ∀ s t : State, Inv s → step s = .next t → Inv t

/-- The state after reset has the invariant. -/
def Obligations.ResetHasInv : Prop := Inv State.reset

/-! ### Special function registers -/

/-- WDTE with the watchdog enabled: any 1-bit access and any write other than ACH request a reset, at once while the clock of
the watchdog runs, and at the next such clock where it is stopped. -/
def Obligations.WatchdogWrites : Prop :=
  ∀ (d : Devices) (v : Byte), d.wdton = true →
    let abnormal := if d.rlRuns then d.requestReset .watchdog else { d with wdt := { d.wdt with waiting := true } }
    d.sfrWrite .bit 0xFF99 v = .next abnormal ∧ (∃ b, d.sfrRead .bit 0xFF99 = .next (b, abnormal)) ∧
    (v ≠ 0xAC → d.sfrWrite .byte 0xFF99 v = .next abnormal) ∧
    (d.wdtClocked = true → d.wdt.waiting = true → d.wdtClock = d.requestReset .watchdog)

/-- The watchdog's counter (the margin, the exact first count and what holds under the settings that R623 and R625 prohibit are the
model's choice, log 49, 86, 133, 134): each of its clocks counts;
with the overflow time of the option byte, 2^10 to 2^17 clocks, the clock that reaches it before the first write requests a
reset; after a write of ACH none comes sooner than two clocks before it, and it has come two clocks after it. ACH as the first
write, or in the window-open period, restarts the counter, and in the window-close period requests a reset, at once or, with the
watchdog's clock stopped, at its next clock (the model's choice, log 49: R624 says this of other values and of 1-bit instructions, and
R625 is silent); that period is 75, 50, 25 or 0 percent of the overflow time (R625); WDTE reads 9AH. -/
def Obligations.WatchdogOverflow : Prop :=
  ∀ d : Devices,
    let limit := 2 ^ (10 + (d.chip.option80.toNat / 2) % 8)
    (d.wdtClocked = true → d.wdt.waiting = false →
      d.wdtClock.wdt.count = d.wdt.count + 1 ∧
      (d.wdtClock.resetReq = d.resetReq ∨ d.wdtClock.resetReq = some .watchdog) ∧
      (d.wdt.count + 1 < (if d.wdt.written then limit - 2 else limit) → d.wdtClock.resetReq = d.resetReq) ∧
      ((if d.wdt.written then limit + 2 else limit) ≤ d.wdt.count + 1 → d.wdtClock.resetReq = some .watchdog)) ∧
    (d.wdton = true →
      (d.wdt.written = false ∨ d.wdtClosed ≤ d.wdt.count →
        d.sfrWrite .byte 0xFF99 0xAC = .next { d with wdt := { d.wdt with count := 0, written := true } }) ∧
      (d.wdt.written = true ∧ d.wdt.count < d.wdtClosed → d.rlRuns = true →
        d.sfrWrite .byte 0xFF99 0xAC = .next (d.requestReset .watchdog)) ∧
      (d.wdt.written = true ∧ d.wdt.count < d.wdtClosed → d.rlRuns = false →
        d.sfrWrite .byte 0xFF99 0xAC = .next { d with wdt := { d.wdt with waiting := true } }) ∧
      (∀ window share : Nat, (window, share) ∈ [(0, 3), (1, 2), (2, 1), (3, 0)] →
        d.chip.option80.toNat / 32 % 4 = window → 4 * d.wdtClosed = share * limit) ∧
      d.sfrRead .byte 0xFF99 = .next (0x9A, d))

/-- A read of a port register: for a bit with a pin, the output latch in output mode, and in input mode the level at the pin,
where it is a digital input: what the outside world drives, or 1 on an undriven pin with its pull-up. P121 to P124 are inputs, and
P122 reads 0 as the external clock input; bits 7 to 4 of ports 14 and 15 read their latches. Reading changes nothing, but that
reading port 2 may disturb a conversion (log 88). -/
def Obligations.PortReads : Prop :=
  ∀ (d : Devices) (m n : Nat) (r q : Sfr), portReg m = some r → modeReg m = some q → n < 8 →
    (m = 12 → 1 ≤ n → n ≤ 4 →
      (d.fieldOf .OSCCTL 6 2 = 3 → n = 2 → (d.portRead m).getLsbD n = false) ∧
      (¬(d.fieldOf .OSCCTL 6 2 = 3 ∧ n = 2) → d.inputClosed (m, n) = false →
        (Cells.read (fun _ => 0) d.env.driven m).getLsbD n = true →
        (d.portRead m).getLsbD n = (Cells.read (fun _ => 0) d.env.level m).getLsbD n)) ∧
    (m = 14 ∨ m = 15 → 4 ≤ n → (d.portRead m).getLsbD n = d.bit r n) ∧
    ((portMask d.series m).getLsbD n = true →
    d.readReg r = .next (d.portRead m, if m = 2 then d.adcDisturb true else d) ∧
    (d.bit q n = false → (d.portRead m).getLsbD n = d.bit r n) ∧
    (d.bit q n = true → d.lcdPin (m, n) = false → d.inputClosed (m, n) = false →
      ((Cells.read (fun _ => 0) d.env.driven m).getLsbD n = true →
        (d.portRead m).getLsbD n = (Cells.read (fun _ => 0) d.env.level m).getLsbD n) ∧
      (∀ p, (Cells.read (fun _ => 0) d.env.driven m).getLsbD n = false → pullReg m = some p → d.bit p n = true →
        d.transmitPin (m, n) = false → (d.portRead m).getLsbD n = true)))

/-- A count clock of an 8-bit timer 5n that runs as an interval timer: below the compare value the counter counts up; at the
compare value it clears and INTTM5n is requested (R566); no other register changes. (For timer 51 outside carrier generator
mode, and with timer 52 not clocking timer 00. The match comes on the clock that leaves the compared value: log 45.) -/
def Obligations.IntervalTimer : Prop :=
  ∀ (d : Devices) (i : Ch3), d.tm5On i = true → d.tm5Pwm i = false →
    let c := tm5Counter i
    let k := (tm5Source i).number
    (d.rd c ≠ d.rd (tm5Compare i) → (d.tm5Clock i).rd c = d.rd c + 1 ∧ ∀ r : Sfr, r ≠ c → (d.tm5Clock i).rd r = d.rd r) ∧
    (d.rd c = d.rd (tm5Compare i) → (i = .n1 → d.carrierMode = false) → (i = .n2 → d.fieldOf .PRM00 0 3 ≠ 7) →
      (d.tm5Clock i).rd c = 0 ∧ ((d.tm5Clock i).rd (flagReg (k / 8))).getLsbD (k % 8) = true ∧
      ∀ r : Sfr, r ≠ c → r ≠ flagReg (k / 8) → (d.tm5Clock i).rd r = d.rd r)

/-- A write to a read-only register changes no register and records a fault, and a read gives what the hardware put there; here
RESF, whose reading clears it (ignored and recorded is the spec's treatment U4, log 29; the cleared read: log 60). -/
def Obligations.ReadOnlyRegister : Prop :=
  ∀ (d : Devices) (v : Byte),
    d.sfrWrite .byte 0xFFAC v = .next { d with noted := 0xFFAC :: d.noted } ∧
    ∃ e, d.sfrRead .byte 0xFFAC = .next (d.rd .RESF, e) ∧ e.rd .RESF = 0 ∧ ∀ r : Sfr, r ≠ .RESF → e.rd r = d.rd r

end
end

