-- ==== Sys2Proof/Laws/Memory.lean ====
section
/-! SUPPORT. Laws of stored bytes: a read after a write, and the canonical form. -/

namespace Sys2Proof.Machine

namespace Cells

theorem read_erase_other {dflt : Nat → Byte} {a b : Nat} (h : b ≠ a) (cs : List Host.Cell) :
    read dflt (erase a cs) b = read dflt cs b := by
  induction cs with
  | nil => rfl
  | cons c rest ih =>
    obtain ⟨k, v⟩ := c
    simp only [erase] at ih ⊢
    by_cases hk : k = a
    · subst hk
      have hb : ¬ k = b := fun e => h e.symm
      simp [read, hb, ih]
    · by_cases hb : k = b
      · simp [read, hb, h]
      · simp [read, hk, hb, ih]

theorem read_erase_same {dflt : Nat → Byte} (a : Nat) (cs : List Host.Cell) :
    read dflt (erase a cs) a = dflt a := by
  induction cs with
  | nil => rfl
  | cons c rest ih =>
    obtain ⟨k, v⟩ := c
    simp only [erase] at ih ⊢
    by_cases hk : k = a
    · simp [hk, ih]
    · simp [read, hk, ih]

theorem read_insert_same {dflt : Nat → Byte} (a : Nat) (v : Byte) (cs : List Host.Cell) (h : ∀ c ∈ cs, c.1 ≠ a) :
    read dflt (insert a v cs) a = v := by
  induction cs with
  | nil => simp [insert, read]
  | cons c rest ih =>
    obtain ⟨k, w⟩ := c
    simp only [insert]
    split
    · simp [read]
    · have hk : k ≠ a := h (k, w) (by simp)
      simp [read, hk, ih fun c' hc => h c' (by simp [hc])]

theorem read_insert_other {dflt : Nat → Byte} {a b : Nat} (h : b ≠ a) (v : Byte) (cs : List Host.Cell) :
    read dflt (insert a v cs) b = read dflt cs b := by
  have hab : ¬ a = b := fun e => h e.symm
  induction cs with
  | nil => simp [insert, read, hab]
  | cons c rest ih =>
    obtain ⟨k, w⟩ := c
    simp only [insert]
    split
    · simp [read, hab]
    · simp [read, ih]

theorem mem_erase {a : Nat} {cs : List Host.Cell} {c : Host.Cell} : c ∈ erase a cs ↔ c ∈ cs ∧ c.1 ≠ a := by
  simp [erase]

/-- Reading what was written gives it. -/
theorem read_write_same {dflt : Nat → Byte} (cs : List Host.Cell) (a : Nat) (v : Byte) :
    read dflt (write dflt cs a v) a = v := by
  unfold write
  split
  · next h => rw [read_erase_same, h]
  · exact read_insert_same a v _ fun c hc => (mem_erase.mp hc).2

/-- A write leaves every other address alone. -/
theorem read_write_other {dflt : Nat → Byte} (cs : List Host.Cell) {a b : Nat} (h : b ≠ a) (v : Byte) :
    read dflt (write dflt cs a v) b = read dflt cs b := by
  unfold write
  split
  · exact read_erase_other h cs
  · rw [read_insert_other h, read_erase_other h]

theorem mem_insert {a : Nat} {v : Byte} {cs : List Host.Cell} {c : Host.Cell} :
    c ∈ insert a v cs ↔ c = (a, v) ∨ c ∈ cs := by
  induction cs with
  | nil => simp [insert]
  | cons d rest ih =>
    simp only [insert]
    split
    · simp
    · simp only [List.mem_cons, ih]
      constructor
      · rintro (h | h | h) <;> simp [h]
      · rintro (h | h | h) <;> simp [h]

theorem sorted_erase {a : Nat} {cs : List Host.Cell} (h : sorted cs = true) : sorted (erase a cs) = true := by
  induction cs with
  | nil => rfl
  | cons c rest ih =>
    simp only [sorted, Bool.and_eq_true, List.all_eq_true, decide_eq_true_eq] at h
    have ht := ih h.2
    simp only [erase] at ht ⊢
    by_cases hc : c.1 = a
    · simp [hc, ht]
    · simp only [List.filter_cons, bne_iff_ne, ne_eq, hc, not_false_eq_true, if_true, sorted,
        Bool.and_eq_true, List.all_eq_true, decide_eq_true_eq]
      exact ⟨fun x hx => h.1 x (List.mem_filter.mp hx).1, ht⟩

theorem sorted_insert {a : Nat} {v : Byte} {cs : List Host.Cell} (h : sorted cs = true) (hn : ∀ c ∈ cs, c.1 ≠ a) :
    sorted (insert a v cs) = true := by
  induction cs with
  | nil => rfl
  | cons c rest ih =>
    have hs := h
    simp only [sorted, Bool.and_eq_true, List.all_eq_true, decide_eq_true_eq] at h
    simp only [insert]
    split
    · next hlt =>
      simp only [sorted, Bool.and_eq_true, List.all_eq_true, decide_eq_true_eq]
      refine ⟨fun x hx => ?_, h⟩
      rcases List.mem_cons.mp hx with rfl | hx
      · exact hlt
      · exact Nat.lt_trans hlt (h.1 x hx)
    · next hge =>
      have hne : c.1 ≠ a := hn c (by simp)
      simp only [sorted, Bool.and_eq_true, List.all_eq_true, decide_eq_true_eq]
      refine ⟨fun x hx => ?_, ih h.2 fun c' hc => hn c' (by simp [hc])⟩
      rcases mem_insert.mp hx with rfl | hx
      · change c.1 < a
        omega
      · exact h.1 x hx

/-- A write keeps the canonical form. -/
theorem wf_write {dflt : Nat → Byte} {cs : List Host.Cell} (h : wf dflt cs = true) (a : Nat) (v : Byte) :
    wf dflt (write dflt cs a v) = true := by
  simp only [wf, Bool.and_eq_true, List.all_eq_true, bne_iff_ne, ne_eq] at h ⊢
  unfold write
  split
  · exact ⟨sorted_erase h.1, fun c hc => h.2 c (mem_erase.mp hc).1⟩
  · next hv =>
    refine ⟨sorted_insert (sorted_erase h.1) fun c hc => (mem_erase.mp hc).2, fun c hc => ?_⟩
    rcases mem_insert.mp hc with rfl | hc
    · exact hv
    · exact h.2 c (mem_erase.mp hc).1

theorem sorted_filter {p : Host.Cell → Bool} {cs : List Host.Cell} (h : sorted cs = true) :
    sorted (cs.filter p) = true := by
  induction cs with
  | nil => rfl
  | cons c rest ih =>
    simp only [sorted, Bool.and_eq_true, List.all_eq_true, decide_eq_true_eq] at h
    simp only [List.filter_cons]
    split
    · simp only [sorted, Bool.and_eq_true, List.all_eq_true, decide_eq_true_eq]
      exact ⟨fun x hx => h.1 x (List.mem_filter.mp hx).1, ih h.2⟩
    · exact ih h.2

end Cells

@[simp] theorem Memory.put_epoch (m : Memory) (a : Nat) (v : Byte) : (m.put a v).epoch = m.epoch := rfl

/-- Reading the address that was written gives the byte. -/
@[simp] theorem Memory.get_put_same (m : Memory) (a : Nat) (v : Byte) : (m.put a v).get a = v :=
  Cells.read_write_same m.cells a v

/-- Reading another address gives what it gave before. -/
theorem Memory.get_put_other (m : Memory) {a b : Nat} (h : b ≠ a) (v : Byte) : (m.put a v).get b = m.get b :=
  Cells.read_write_other m.cells h v

/-- A store keeps the canonical form. -/
theorem Memory.wf_put {m : Memory} (h : m.wf = true) (a : Nat) (v : Byte) : (m.put a v).wf = true :=
  Cells.wf_write h a v

/-- Memory with nothing listed is in canonical form. -/
theorem Memory.wf_empty (epoch : Nat) : (Memory.mk epoch []).wf = true := rfl

end Sys2Proof.Machine
end

