-- ==== Sys2Proof/Laws/State.lean ====
section
/-! SUPPORT. One lemma for each field and each update of the state, so that no proof unfolds a record update. -/

namespace Sys2Proof.Machine

/-! ### `putRegOf` -/

@[simp] theorem State.putRegOf_pc (s : State) (p : Byte) (r : Reg8) (v : Byte) : (s.putRegOf p r v).pc = s.pc := rfl
@[simp] theorem State.putRegOf_psw (s : State) (p : Byte) (r : Reg8) (v : Byte) : (s.putRegOf p r v).psw = s.psw := rfl
@[simp] theorem State.putRegOf_sp (s : State) (p : Byte) (r : Reg8) (v : Byte) : (s.putRegOf p r v).sp = s.sp := rfl
@[simp] theorem State.putRegOf_mem (s : State) (p : Byte) (r : Reg8) (v : Byte) :
    (s.putRegOf p r v).mem = s.mem.put (regAddr p r) v := rfl
@[simp] theorem State.putRegOf_hold (s : State) (p : Byte) (r : Reg8) (v : Byte) :
    (s.putRegOf p r v).hold = s.hold := rfl
@[simp] theorem State.putRegOf_draws (s : State) (p : Byte) (r : Reg8) (v : Byte) :
    (s.putRegOf p r v).draws = s.draws := rfl
@[simp] theorem State.putRegOf_cpuClocks (s : State) (p : Byte) (r : Reg8) (v : Byte) :
    (s.putRegOf p r v).cpuClocks = s.cpuClocks := rfl
@[simp] theorem State.putRegOf_agenda (s : State) (p : Byte) (r : Reg8) (v : Byte) :
    (s.putRegOf p r v).agenda = s.agenda := rfl
@[simp] theorem State.putRegOf_between (s : State) (p : Byte) (r : Reg8) (v : Byte) :
    (s.putRegOf p r v).between = s.between := rfl
@[simp] theorem State.putRegOf_dev (s : State) (p : Byte) (r : Reg8) (v : Byte) : (s.putRegOf p r v).dev = s.dev := rfl

/-! ### `putReg` -/

@[simp] theorem State.putReg_pc (s : State) (r : Reg8) (v : Byte) : (s.putReg r v).pc = s.pc := rfl
@[simp] theorem State.putReg_psw (s : State) (r : Reg8) (v : Byte) : (s.putReg r v).psw = s.psw := rfl
@[simp] theorem State.putReg_sp (s : State) (r : Reg8) (v : Byte) : (s.putReg r v).sp = s.sp := rfl
@[simp] theorem State.putReg_mem (s : State) (r : Reg8) (v : Byte) :
    (s.putReg r v).mem = s.mem.put (regAddr s.psw r) v := rfl
@[simp] theorem State.putReg_hold (s : State) (r : Reg8) (v : Byte) : (s.putReg r v).hold = s.hold := rfl
@[simp] theorem State.putReg_draws (s : State) (r : Reg8) (v : Byte) : (s.putReg r v).draws = s.draws := rfl
@[simp] theorem State.putReg_cpuClocks (s : State) (r : Reg8) (v : Byte) : (s.putReg r v).cpuClocks = s.cpuClocks := rfl
@[simp] theorem State.putReg_agenda (s : State) (r : Reg8) (v : Byte) : (s.putReg r v).agenda = s.agenda := rfl
@[simp] theorem State.putReg_between (s : State) (r : Reg8) (v : Byte) : (s.putReg r v).between = s.between := rfl
@[simp] theorem State.putReg_dev (s : State) (r : Reg8) (v : Byte) : (s.putReg r v).dev = s.dev := rfl

/-! ### `putPair` -/

@[simp] theorem State.putPair_pc (s : State) (rp : RegPair) (w : Word) : (s.putPair rp w).pc = s.pc := rfl
@[simp] theorem State.putPair_psw (s : State) (rp : RegPair) (w : Word) : (s.putPair rp w).psw = s.psw := rfl
@[simp] theorem State.putPair_sp (s : State) (rp : RegPair) (w : Word) : (s.putPair rp w).sp = s.sp := rfl
@[simp] theorem State.putPair_mem (s : State) (rp : RegPair) (w : Word) :
    (s.putPair rp w).mem = (s.mem.put (regAddr s.psw (lowReg rp)) (lo w)).put (regAddr s.psw (highReg rp)) (hi w) := rfl
@[simp] theorem State.putPair_hold (s : State) (rp : RegPair) (w : Word) : (s.putPair rp w).hold = s.hold := rfl
@[simp] theorem State.putPair_draws (s : State) (rp : RegPair) (w : Word) : (s.putPair rp w).draws = s.draws := rfl
@[simp] theorem State.putPair_cpuClocks (s : State) (rp : RegPair) (w : Word) :
    (s.putPair rp w).cpuClocks = s.cpuClocks := rfl
@[simp] theorem State.putPair_agenda (s : State) (rp : RegPair) (w : Word) : (s.putPair rp w).agenda = s.agenda := rfl
@[simp] theorem State.putPair_between (s : State) (rp : RegPair) (w : Word) : (s.putPair rp w).between = s.between := rfl
@[simp] theorem State.putPair_dev (s : State) (rp : RegPair) (w : Word) : (s.putPair rp w).dev = s.dev := rfl

/-! ### `putPsw` -/

@[simp] theorem State.putPsw_pc (s : State) (v : Byte) : (s.putPsw v).pc = s.pc := rfl
@[simp] theorem State.putPsw_psw (s : State) (v : Byte) : (s.putPsw v).psw = pswValue v := rfl
@[simp] theorem State.putPsw_sp (s : State) (v : Byte) : (s.putPsw v).sp = s.sp := rfl
@[simp] theorem State.putPsw_mem (s : State) (v : Byte) : (s.putPsw v).mem = s.mem := rfl
@[simp] theorem State.putPsw_hold (s : State) (v : Byte) : (s.putPsw v).hold = s.hold := rfl
@[simp] theorem State.putPsw_draws (s : State) (v : Byte) : (s.putPsw v).draws = s.draws := rfl
@[simp] theorem State.putPsw_cpuClocks (s : State) (v : Byte) : (s.putPsw v).cpuClocks = s.cpuClocks := rfl
@[simp] theorem State.putPsw_agenda (s : State) (v : Byte) : (s.putPsw v).agenda = s.agenda := rfl
@[simp] theorem State.putPsw_between (s : State) (v : Byte) : (s.putPsw v).between = s.between := rfl
@[simp] theorem State.putPsw_dev (s : State) (v : Byte) : (s.putPsw v).dev = s.dev := rfl

/-! ### `putPswBit` -/

@[simp] theorem State.putPswBit_pc (s : State) (n : Nat) (v : Bool) : (s.putPswBit n v).pc = s.pc := rfl
@[simp] theorem State.putPswBit_psw (s : State) (n : Nat) (v : Bool) :
    (s.putPswBit n v).psw = pswValue (setBit s.psw n v) := rfl
@[simp] theorem State.putPswBit_sp (s : State) (n : Nat) (v : Bool) : (s.putPswBit n v).sp = s.sp := rfl
@[simp] theorem State.putPswBit_mem (s : State) (n : Nat) (v : Bool) : (s.putPswBit n v).mem = s.mem := rfl
@[simp] theorem State.putPswBit_hold (s : State) (n : Nat) (v : Bool) : (s.putPswBit n v).hold = s.hold := rfl
@[simp] theorem State.putPswBit_draws (s : State) (n : Nat) (v : Bool) : (s.putPswBit n v).draws = s.draws := rfl
@[simp] theorem State.putPswBit_cpuClocks (s : State) (n : Nat) (v : Bool) :
    (s.putPswBit n v).cpuClocks = s.cpuClocks := rfl
@[simp] theorem State.putPswBit_agenda (s : State) (n : Nat) (v : Bool) : (s.putPswBit n v).agenda = s.agenda := rfl
@[simp] theorem State.putPswBit_between (s : State) (n : Nat) (v : Bool) : (s.putPswBit n v).between = s.between := rfl
@[simp] theorem State.putPswBit_dev (s : State) (n : Nat) (v : Bool) : (s.putPswBit n v).dev = s.dev := rfl

/-! ### `putCy` -/

@[simp] theorem State.putCy_pc (s : State) (v : Bool) : (s.putCy v).pc = s.pc := rfl
@[simp] theorem State.putCy_psw (s : State) (v : Bool) : (s.putCy v).psw = pswValue (setBit s.psw 0 v) := rfl
@[simp] theorem State.putCy_sp (s : State) (v : Bool) : (s.putCy v).sp = s.sp := rfl
@[simp] theorem State.putCy_mem (s : State) (v : Bool) : (s.putCy v).mem = s.mem := rfl
@[simp] theorem State.putCy_hold (s : State) (v : Bool) : (s.putCy v).hold = s.hold := rfl
@[simp] theorem State.putCy_draws (s : State) (v : Bool) : (s.putCy v).draws = s.draws := rfl
@[simp] theorem State.putCy_cpuClocks (s : State) (v : Bool) : (s.putCy v).cpuClocks = s.cpuClocks := rfl
@[simp] theorem State.putCy_agenda (s : State) (v : Bool) : (s.putCy v).agenda = s.agenda := rfl
@[simp] theorem State.putCy_between (s : State) (v : Bool) : (s.putCy v).between = s.between := rfl
@[simp] theorem State.putCy_dev (s : State) (v : Bool) : (s.putCy v).dev = s.dev := rfl

/-! ### `putFlags` -/

@[simp] theorem State.putFlags_pc (s : State) (o : AluOut) : (s.putFlags o).pc = s.pc := rfl
@[simp] theorem State.putFlags_psw (s : State) (o : AluOut) :
    (s.putFlags o).psw = flagsInto s.psw (o.value == 0) o.ac o.cy := rfl
@[simp] theorem State.putFlags_sp (s : State) (o : AluOut) : (s.putFlags o).sp = s.sp := rfl
@[simp] theorem State.putFlags_mem (s : State) (o : AluOut) : (s.putFlags o).mem = s.mem := rfl
@[simp] theorem State.putFlags_hold (s : State) (o : AluOut) : (s.putFlags o).hold = s.hold := rfl
@[simp] theorem State.putFlags_draws (s : State) (o : AluOut) : (s.putFlags o).draws = s.draws := rfl
@[simp] theorem State.putFlags_cpuClocks (s : State) (o : AluOut) : (s.putFlags o).cpuClocks = s.cpuClocks := rfl
@[simp] theorem State.putFlags_agenda (s : State) (o : AluOut) : (s.putFlags o).agenda = s.agenda := rfl
@[simp] theorem State.putFlags_between (s : State) (o : AluOut) : (s.putFlags o).between = s.between := rfl
@[simp] theorem State.putFlags_dev (s : State) (o : AluOut) : (s.putFlags o).dev = s.dev := rfl

/-! ### `branch` -/

@[simp] theorem State.branch_pc (s : State) (d : Byte) : (s.branch d).pc = s.pc + sext d := rfl
@[simp] theorem State.branch_psw (s : State) (d : Byte) : (s.branch d).psw = s.psw := rfl
@[simp] theorem State.branch_sp (s : State) (d : Byte) : (s.branch d).sp = s.sp := rfl
@[simp] theorem State.branch_mem (s : State) (d : Byte) : (s.branch d).mem = s.mem := rfl
@[simp] theorem State.branch_hold (s : State) (d : Byte) : (s.branch d).hold = s.hold := rfl
@[simp] theorem State.branch_draws (s : State) (d : Byte) : (s.branch d).draws = s.draws := rfl
@[simp] theorem State.branch_cpuClocks (s : State) (d : Byte) : (s.branch d).cpuClocks = s.cpuClocks := rfl
@[simp] theorem State.branch_agenda (s : State) (d : Byte) : (s.branch d).agenda = s.agenda := rfl
@[simp] theorem State.branch_between (s : State) (d : Byte) : (s.branch d).between = s.between := rfl
@[simp] theorem State.branch_dev (s : State) (d : Byte) : (s.branch d).dev = s.dev := rfl

/-! ### `holding` -/

@[simp] theorem State.holding_pc (s : State) : (s.holding).pc = s.pc := rfl
@[simp] theorem State.holding_psw (s : State) : (s.holding).psw = s.psw := rfl
@[simp] theorem State.holding_sp (s : State) : (s.holding).sp = s.sp := rfl
@[simp] theorem State.holding_mem (s : State) : (s.holding).mem = s.mem := rfl
@[simp] theorem State.holding_hold (s : State) : (s.holding).hold = true := rfl
@[simp] theorem State.holding_draws (s : State) : (s.holding).draws = s.draws := rfl
@[simp] theorem State.holding_cpuClocks (s : State) : (s.holding).cpuClocks = s.cpuClocks := rfl
@[simp] theorem State.holding_agenda (s : State) : (s.holding).agenda = s.agenda := rfl
@[simp] theorem State.holding_between (s : State) : (s.holding).between = s.between := rfl
@[simp] theorem State.holding_dev (s : State) : (s.holding).dev = s.dev := rfl

/-! ### `putFlags16`: PSW and the count of draws -/

@[simp] theorem State.putFlags16_pc (s : State) (w : Word) (c : Bool) : (s.putFlags16 w c).pc = s.pc := rfl
@[simp] theorem State.putFlags16_psw (s : State) (w : Word) (c : Bool) :
    (s.putFlags16 w c).psw = flagsInto s.psw (w == 0) (some (Config.acAfter16 s.draws)) (some c) := rfl
@[simp] theorem State.putFlags16_sp (s : State) (w : Word) (c : Bool) : (s.putFlags16 w c).sp = s.sp := rfl
@[simp] theorem State.putFlags16_mem (s : State) (w : Word) (c : Bool) : (s.putFlags16 w c).mem = s.mem := rfl
@[simp] theorem State.putFlags16_hold (s : State) (w : Word) (c : Bool) : (s.putFlags16 w c).hold = s.hold := rfl
@[simp] theorem State.putFlags16_draws (s : State) (w : Word) (c : Bool) : (s.putFlags16 w c).draws = s.draws + 1 := rfl
@[simp] theorem State.putFlags16_cpuClocks (s : State) (w : Word) (c : Bool) :
    (s.putFlags16 w c).cpuClocks = s.cpuClocks := rfl
@[simp] theorem State.putFlags16_agenda (s : State) (w : Word) (c : Bool) : (s.putFlags16 w c).agenda = s.agenda := rfl
@[simp] theorem State.putFlags16_between (s : State) (w : Word) (c : Bool) : (s.putFlags16 w c).between = s.between := rfl
@[simp] theorem State.putFlags16_dev (s : State) (w : Word) (c : Bool) : (s.putFlags16 w c).dev = s.dev := rfl

/-! ### `branchIf`: only PC -/

/-- PC after a conditional branch. -/
@[simp] theorem State.branchIf_pc (s : State) (c : Bool) (d : Byte) :
    (s.branchIf c d).pc = if c then s.pc + sext d else s.pc := by
  unfold State.branchIf
  split <;> rfl

@[simp] theorem State.branchIf_psw (s : State) (c : Bool) (d : Byte) : (s.branchIf c d).psw = s.psw := by
  unfold State.branchIf
  split <;> rfl

@[simp] theorem State.branchIf_sp (s : State) (c : Bool) (d : Byte) : (s.branchIf c d).sp = s.sp := by
  unfold State.branchIf
  split <;> rfl

@[simp] theorem State.branchIf_mem (s : State) (c : Bool) (d : Byte) : (s.branchIf c d).mem = s.mem := by
  unfold State.branchIf
  split <;> rfl

@[simp] theorem State.branchIf_hold (s : State) (c : Bool) (d : Byte) : (s.branchIf c d).hold = s.hold := by
  unfold State.branchIf
  split <;> rfl

@[simp] theorem State.branchIf_draws (s : State) (c : Bool) (d : Byte) : (s.branchIf c d).draws = s.draws := by
  unfold State.branchIf
  split <;> rfl

@[simp] theorem State.branchIf_cpuClocks (s : State) (c : Bool) (d : Byte) : (s.branchIf c d).cpuClocks = s.cpuClocks := by
  unfold State.branchIf
  split <;> rfl

@[simp] theorem State.branchIf_agenda (s : State) (c : Bool) (d : Byte) : (s.branchIf c d).agenda = s.agenda := by
  unfold State.branchIf
  split <;> rfl

@[simp] theorem State.branchIf_between (s : State) (c : Bool) (d : Byte) : (s.branchIf c d).between = s.between := by
  unfold State.branchIf
  split <;> rfl

@[simp] theorem State.branchIf_dev (s : State) (c : Bool) (d : Byte) : (s.branchIf c d).dev = s.dev := by
  unfold State.branchIf
  split <;> rfl

/-! ### `touch`: only the hold condition -/

/-- The hold condition after an access. -/
@[simp] theorem State.touch_hold (s : State) (a : Nat) : (s.touch a).hold = (s.hold || holdsAt a) := by
  unfold State.touch
  split <;> simp_all

@[simp] theorem State.touch_pc (s : State) (a : Nat) : (s.touch a).pc = s.pc := by
  unfold State.touch
  split <;> rfl

@[simp] theorem State.touch_psw (s : State) (a : Nat) : (s.touch a).psw = s.psw := by
  unfold State.touch
  split <;> rfl

@[simp] theorem State.touch_sp (s : State) (a : Nat) : (s.touch a).sp = s.sp := by
  unfold State.touch
  split <;> rfl

@[simp] theorem State.touch_mem (s : State) (a : Nat) : (s.touch a).mem = s.mem := by
  unfold State.touch
  split <;> rfl

@[simp] theorem State.touch_draws (s : State) (a : Nat) : (s.touch a).draws = s.draws := by
  unfold State.touch
  split <;> rfl

@[simp] theorem State.touch_cpuClocks (s : State) (a : Nat) : (s.touch a).cpuClocks = s.cpuClocks := by
  unfold State.touch
  split <;> rfl

@[simp] theorem State.touch_agenda (s : State) (a : Nat) : (s.touch a).agenda = s.agenda := by
  unfold State.touch
  split <;> rfl

@[simp] theorem State.touch_between (s : State) (a : Nat) : (s.touch a).between = s.between := by
  unfold State.touch
  split <;> rfl

@[simp] theorem State.touch_dev (s : State) (a : Nat) : (s.touch a).dev = s.dev := by
  unfold State.touch
  split <;> rfl

end Sys2Proof.Machine
end

