-- ==== Sys2Proof/Laws/Ops.lean ====
section
/-! SUPPORT. For each shared operation of the CPU, one lemma that says what it can do: the spec lemmas that later proofs cite
instead of unfolding the operation. -/

namespace Sys2Proof.Machine

/-! ### Sequencing -/

@[simp] theorem andThen_next {α β : Type} (a : α) (f : α → Res β) : andThen (.next a) f = f a := rfl

@[simp] theorem andThen2_next {α β γ : Type} (p : α × β) (f : α → β → Res γ) : andThen2 (.next p) f = f p.1 p.2 := rfl

/-- A sequence answers exactly when both parts do. -/
theorem andThen_eq_next {α β : Type} {x : Res α} {f : α → Res β} {b : β} :
    andThen x f = .next b ↔ ∃ a, x = .next a ∧ f a = .next b := by
  cases x <;> simp [andThen]

/-- A sequence over a pair answers exactly when both parts do. -/
theorem andThen2_eq_next {α β γ : Type} {x : Res (α × β)} {f : α → β → Res γ} {c : γ} :
    andThen2 x f = .next c ↔ ∃ a b, x = .next (a, b) ∧ f a b = .next c := by
  simp [andThen2, andThen_eq_next]

/-! ### PSW -/

@[simp] theorem pswValue_bit2 (v : Byte) : (pswValue v).getLsbD 2 = false := by
  simp [pswValue]

@[simp] theorem flagsInto_bit2 (p : Byte) (z : Bool) (a c : Option Bool) : (flagsInto p z a c).getLsbD 2 = false :=
  pswValue_bit2 _

/-! ### Accesses where nothing answers -/

/-- Drawing a free byte counts one draw. -/
@[simp] theorem drawByte_dev (d : Devices) : d.drawByte.2 = d.readAny := rfl

/-- A read that gives any value changes only what lies outside the CPU. -/
@[simp] theorem loadAny_state (s : State) (d : Devices) : (s.loadAny d).2 = { s with dev := d.readAny } := rfl

/-- Where the illegal-access detection looks, an access where nothing answers requests the watchdog's reset. -/
theorem strayAccess_caught {d : Devices} {a : Nat} (h : d.catchesAccess a = true) :
    d.strayAccess a = d.requestReset .watchdog := by
  simp [Devices.strayAccess, h]

/-- Elsewhere it records a fault. -/
theorem strayAccess_noted {d : Devices} {a : Nat} (h : d.catchesAccess a = false) : d.strayAccess a = d.note a := by
  simp [Devices.strayAccess, h]

/-! ### Access to the buffer RAM during an interval of CSIA0 -/

/-- With no interval running an access extends none. -/
@[simp] theorem csiaContend_idle {d : Devices} (h : d.csia0.inGap = false) : d.csiaContend = d := by
  simp [Devices.csiaContend, h]

/-- Everything an access can do to CSIA0: nothing, or a free extension of the interval that runs. -/
theorem csiaContend_spec (d : Devices) :
    d.csiaContend = d ∨ d.csia0.inGap = true ∧ ∃ n,
      d.csiaContend = { d with draws := d.draws + 1, csia0 := { d.csia0 with gap := d.csia0.gap + n } } := by
  unfold Devices.csiaContend
  split
  · next h => exact .inr ⟨by simp_all, _, rfl⟩
  · exact .inl rfl

/-- An access makes no interval shorter. -/
theorem csiaContend_gap (d : Devices) : d.csia0.gap ≤ d.csiaContend.csia0.gap := by
  obtain h | ⟨-, n, h⟩ := csiaContend_spec d <;> simp [h]

/-! ### MemRead and MemWrite -/

/-- Everything a byte load that answers can do. -/
theorem load_spec {s t : State} {u : AccessUnit} {ea : Word} {v : Byte} (h : s.load u ea = .next (v, t)) :
    Loaded s t u ea v := by
  simp only [State.load] at h
  cases ha : s.dev.area ea.toNat <;> simp only [ha] at h
  case buffer =>
    split at h <;> next hc =>
      cases h
      constructor <;> simp [LoadedFrom, ha, hc]
  case sfr =>
    split at h
    · next hc =>
      cases h
      constructor <;> simp [LoadedFrom, ha, hc]
    · next hc =>
      obtain ⟨w, d, hd, hw⟩ := andThen2_eq_next.mp h
      cases hw
      constructor <;> simp_all [LoadedFrom]
  all_goals
    cases h
    constructor <;> simp [LoadedFrom, ha]

/-- Everything a byte store that answers can do. -/
theorem store_spec {s t : State} {u : AccessUnit} {ea : Word} {v : Byte} (h : s.store u ea v = .next t) :
    Stored s t u ea v := by
  simp only [State.store] at h
  cases ha : s.dev.area ea.toNat <;> simp only [ha] at h
  case buffer =>
    cases h
    cases hc : s.dev.bit .CSIMA0 7 <;>
      constructor <;> simp +contextual [StoredAt, StoredBeside, ha, hc, Memory.get_put_other]
  case sfr =>
    split at h
    · next hc =>
      cases h
      constructor <;> simp [StoredAt, StoredBeside, ha, hc]
    · next hc =>
      obtain ⟨d, hd, hw⟩ := andThen_eq_next.mp h
      cases hw
      constructor <;> simp_all [StoredAt, StoredBeside]
  all_goals
    cases h
    constructor <;> simp +contextual [StoredAt, StoredBeside, ha, Memory.get_put_other]

/-- A byte load from RAM. -/
theorem load_ram {s : State} {u : AccessUnit} {ea : Word} (h : s.dev.area ea.toNat = .ram) :
    s.load u ea = .next (s.mem.get ea.toNat, s) := by
  simp [State.load, h]

/-- A byte store to RAM. -/
theorem store_ram {s : State} {u : AccessUnit} {ea : Word} {v : Byte} (h : s.dev.area ea.toNat = .ram) :
    s.store u ea v = .next { s with mem := s.mem.put ea.toNat v } := by
  simp [State.store, h]

/-! ### Read, modify, write -/

/-- With no move between, nothing happens between. -/
@[simp] theorem midway_nil {s : State} (h : s.between = []) : s.midway = s := by
  simp [State.midway, h]

/-- The moves between change only what lies outside the CPU. -/
theorem midway_spec (s : State) :
    s.midway.between = [] ∧ s.midway = { s with dev := s.midway.dev, between := s.midway.between } := by
  unfold State.midway
  split
  · next h => exact ⟨h, rfl⟩
  · exact ⟨rfl, rfl⟩

@[simp] theorem midway_between (s : State) : s.midway.between = [] := (midway_spec s).1
@[simp] theorem midway_mem (s : State) : s.midway.mem = s.mem := by rw [(midway_spec s).2]
@[simp] theorem midway_psw (s : State) : s.midway.psw = s.psw := by rw [(midway_spec s).2]
@[simp] theorem midway_sp (s : State) : s.midway.sp = s.sp := by rw [(midway_spec s).2]
@[simp] theorem midway_pc (s : State) : s.midway.pc = s.pc := by rw [(midway_spec s).2]
@[simp] theorem midway_hold (s : State) : s.midway.hold = s.hold := by rw [(midway_spec s).2]
@[simp] theorem midway_draws (s : State) : s.midway.draws = s.draws := by rw [(midway_spec s).2]
@[simp] theorem midway_cpuClocks (s : State) : s.midway.cpuClocks = s.cpuClocks := by rw [(midway_spec s).2]
@[simp] theorem midway_agenda (s : State) : s.midway.agenda = s.agenda := by rw [(midway_spec s).2]

/-- An access in bytes writes back what it computed. -/
@[simp] theorem raisedMidway_byte (s : State) (ea : Word) : s.raisedMidway .byte ea = 0 := by
  simp [State.raisedMidway]

/-- With no move between, no flag is raised between. -/
theorem raisedMidway_nil {s : State} (h : s.between = []) (u : AccessUnit) (ea : Word) : s.raisedMidway u ea = 0 := by
  unfold State.raisedMidway
  split
  · rw [midway_nil h, BitVec.and_not_self]
  · rfl

/-- A byte read and written back: exactly when the read answers and, where there is something to write, the write does. -/
theorem modify_eq_next {s t : State} {u : AccessUnit} {ea : Word} {f : Byte → Option Byte} {v : Byte} :
    s.modify u ea f = .next (v, t) ↔
      ∃ r, s.load u ea = .next (v, r) ∧
        (f v = none ∧ t = r ∨ ∃ w, f v = some w ∧ r.midway.store u ea (w ||| r.raisedMidway u ea) = .next t) := by
  unfold State.modify
  rw [andThen2_eq_next]
  constructor
  · rintro ⟨a, r, hr, h⟩
    cases hf : f a <;> simp only [hf] at h
    · cases h
      exact ⟨_, hr, .inl ⟨hf, rfl⟩⟩
    · obtain ⟨t', ht, h⟩ := andThen_eq_next.mp h
      cases h
      exact ⟨_, hr, .inr ⟨_, hf, ht⟩⟩
  · rintro ⟨r, hr, h⟩
    obtain ⟨hf, rfl⟩ | ⟨w, hf, ht⟩ := h
    · exact ⟨v, _, hr, by simp [hf]⟩
    · exact ⟨v, _, hr, by simp [hf, ht]⟩

/-- A byte of RAM read and written back, with no move between. -/
theorem modify_ram {s : State} {u : AccessUnit} {ea : Word} {f : Byte → Option Byte} (hb : s.between = [])
    (h : s.dev.area ea.toNat = .ram) :
    s.modify u ea f = .next (s.mem.get ea.toNat,
      match f (s.mem.get ea.toNat) with
      | some w => { s with mem := s.mem.put ea.toNat w }
      | none => s) := by
  unfold State.modify
  rw [load_ram h, andThen2_next]
  cases f (s.mem.get ea.toNat) <;> simp [raisedMidway_nil hb, midway_nil hb, store_ram h]

/-- A digit rotate answers exactly where its operand is read and written back, and then A is written from A before and after
that write (R274, R275). -/
theorem rotateDigits_eq_next {s t : State} {f : Byte → Byte → Byte} {g : Byte → Byte → Byte → Byte} :
    s.rotateDigits f g = .next t ↔ ∃ m u, s.modify .byte s.hlEA (fun m => some (f (s.reg .a) m)) = .next (m, u) ∧
      t = u.putRegOf s.psw .a (g (s.reg .a) (u.mem.get (regAddr s.psw .a)) m) := by
  simp [State.rotateDigits, andThen2_eq_next, eq_comm (a := t)]

/-! ### The stack -/

/-- Memory with bytes stored one below the other, the first just below `top`. -/
def putDown (m : Memory) (top : Word) : List Byte → Memory
  | [] => m
  | v :: vs => putDown (m.put (top - 1).toNat v) (top - 1) vs

/-- Bytes saved into RAM. -/
theorem storeDown_ram {s : State} {top : Word} {vs : List Byte} (h : StackBelow s top vs.length) :
    s.storeDown top vs = .next { s with mem := putDown s.mem top vs } := by
  induction vs generalizing s top with
  | nil => rfl
  | cons v vs ih =>
    obtain ⟨h1, h2⟩ := h
    have h2' : ∀ (n : Nat) (w : Word), StackBelow s w n →
        StackBelow { s with mem := s.mem.put (top - 1).toNat v } w n := by
      intro n
      induction n with
      | zero => intros; trivial
      | succ n ih => intro w hw; exact ⟨hw.1, ih _ hw.2⟩
    rw [State.storeDown, store_ram h1, andThen_next, ih (h2' _ _ h2)]
    rfl

/-- A push onto a stack that lies in RAM. -/
theorem push_ram {s : State} {vs : List Byte} (h : StackBelow s s.sp vs.length) :
    s.push vs = .next { s with mem := putDown s.mem s.sp vs, sp := s.sp - BitVec.ofNat 16 vs.length } := by
  rw [State.push, storeDown_ram h, andThen_next]

/-- A word read on a stack that lies in RAM. -/
theorem peekWord_ram {s : State} (h : StackAbove s s.sp 2) :
    s.peekWord = .next (join (s.mem.get (s.sp + 1).toNat) (s.mem.get s.sp.toNat), s) := by
  obtain ⟨h0, h1, -⟩ := h
  rw [State.peekWord, load_ram h1, andThen2_next, load_ram h0, andThen2_next]

/-- A word restored from a stack that lies in RAM. -/
theorem popWord_ram {s : State} (h : StackAbove s s.sp 2) :
    s.popWord = .next (join (s.mem.get (s.sp + 1).toNat) (s.mem.get s.sp.toNat), { s with sp := s.sp + 2 }) := by
  rw [State.popWord, peekWord_ram h, andThen2_next]

/-- A byte restored from a stack that lies in RAM. -/
theorem popByte_ram {s : State} (h : StackAbove s s.sp 1) :
    s.popByte = .next (s.mem.get s.sp.toNat, { s with sp := s.sp + 1 }) := by
  rw [State.popByte, load_ram h.1, andThen2_next]

/-- A 16-bit load from RAM: the low byte at the even address, the high byte at the next. -/
theorem loadWord_ram {s : State} {ea : Word} (he : ea.getLsbD 0 = false) (h : s.dev.area ea.toNat = .ram)
    (h1 : s.dev.area (ea + 1).toNat = .ram) :
    s.loadWord ea = .next (join (s.mem.get (ea + 1).toNat) (s.mem.get ea.toNat), s) := by
  simp only [State.loadWord, he, h, load_ram h, Bool.false_eq_true, if_false, andThen2_next]
  rw [load_ram h1, andThen2_next]

/-- A 16-bit store to RAM. -/
theorem storeWord_ram {s : State} {ea v : Word} (he : ea.getLsbD 0 = false) (h : s.dev.area ea.toNat = .ram)
    (h1 : s.dev.area (ea + 1).toNat = .ram) :
    s.storeWord ea v = .next { s with mem := (s.mem.put ea.toNat (lo v)).put (ea + 1).toNat (hi v) } := by
  simp only [State.storeWord, he, h, store_ram h, Bool.false_eq_true, if_false, andThen_next]
  exact store_ram (s := { s with mem := s.mem.put ea.toNat (lo v) }) h1

/-- Entering a handler from a stack that lies in RAM. -/
theorem enter_ram {s : State} {vector : Nat} {isp : Option Bool} (h : StackBelow s s.sp 3) :
    s.enter vector isp = .next
      (let t := { s with mem := putDown s.mem s.sp [s.psw, hi s.pc, lo s.pc], sp := s.sp - 3 }
       let u := t.putPswBit 7 false
       let w := match isp with
         | some b => u.putPswBit 1 b
         | none => u
       { w with pc := w.tableWord vector }) := by
  rw [State.enter, push_ram h, andThen_next]
  rfl

/-- Returning from an exception on a stack that lies in RAM. -/
theorem leave_ram {s : State} (h : StackAbove s s.sp 3) :
    s.leave = .next { s with pc := join (s.mem.get (s.sp + 1).toNat) (s.mem.get s.sp.toNat),
                             psw := pswValue (s.mem.get (s.sp + 2).toNat), sp := s.sp + 3 } := by
  obtain ⟨h0, h1, h2, -⟩ := h
  have e : s.sp + 2 = s.sp + 1 + 1 := by rw [BitVec.add_assoc]; rfl
  rw [State.leave, peekWord_ram ⟨h0, h1, trivial⟩, andThen2_next]
  dsimp only
  rw [e, load_ram h2, andThen2_next]
  rfl

/-! ### The instruction boundary -/

/-- With no request to be taken nothing is accepted. -/
theorem acceptInterrupt_none {s : State} (h : s.dev.chosenRequest = none) : s.acceptInterrupt = .next s := by
  simp [State.acceptInterrupt, h]

/-- A running CPU is not woken. -/
theorem wake_run {d : Devices} (h : d.mode = .run) : d.wake = d := by
  unfold Devices.wake
  split <;> simp [h]

/-- Waking requests no reset and takes none back. -/
@[simp] theorem wake_resetReq (d : Devices) : d.wake.resetReq = d.resetReq := by
  unfold Devices.wake
  split <;> (try split) <;> rfl

/-- A clock switch leaves the mode and a reset request alone. -/
theorem clockSwitches_spec (d : Devices) (n : Nat) :
    (d.clockSwitches n).mode = d.mode ∧ (d.clockSwitches n).resetReq = d.resetReq := by
  simp only [Devices.clockSwitches, Devices.finishCss, Devices.finishMcs]
  split <;> split <;> (try split) <;> (try split) <;> exact ⟨rfl, rfl⟩

/-- Everything the boundary after an instruction can do: with some state of what lies outside the CPU, a requested reset, or the
check for requests after the release of standby. -/
theorem boundary_cases {s t : State} {n : Nat} (h : s.boundary n = .next t) :
    ∃ d : Devices,
      (∃ c, d.resetReq = some c ∧ t = State.takeReset { s with cpuClocks := s.cpuClocks + n, dev := d } c) ∨
      (d.resetReq = none ∧ State.checkRequests { s with cpuClocks := s.cpuClocks + n, dev := d.wake } = .next t) := by
  unfold State.boundary at h
  generalize (s.dev.clockSwitches n).momentPasses s.dev = d at h
  refine ⟨d, ?_⟩
  cases hr : d.resetReq <;> simp only [hr] at h
  · exact .inr ⟨rfl, h⟩
  · cases h
    exact .inl ⟨_, rfl, rfl⟩

/-- The end of a reset signal requests no reset and takes none back. -/
@[simp] theorem release_resetReq (d : Devices) : d.release.resetReq = d.resetReq := by
  unfold Devices.release
  split <;> rfl

/-- The moves that an instruction had no middle for are on the agenda then. -/
@[simp] theorem leftover_between (s : State) : s.leftover.between = [] := by
  unfold State.leftover
  split
  · assumption
  · rfl

/-- With no such move nothing changes. -/
theorem leftover_nil {s : State} (h : s.between = []) : s.leftover = s := by
  simp [State.leftover, h]

/-! ### Reset -/

/-- The devices after a reset have no request pending. -/
@[simp] theorem devicesAfterReset_resetReq (s : State) (c : ResetCause) : (s.devicesAfterReset c).resetReq = none := rfl

/-- Memory after a reset keeps the canonical form: the cells that stay are those of flash, whose contents no reset
changes. -/
theorem Memory.wf_afterReset {m : Memory} (h : m.wf = true) (r : Bool) : (m.afterReset r).wf = true := by
  cases r
  · simp only [Memory.afterReset, Bool.false_eq_true, if_false, Memory.wf, Cells.wf, Bool.and_eq_true, List.all_eq_true,
      bne_iff_ne, ne_eq] at h ⊢
    refine ⟨Cells.sorted_filter h.1, fun c hc => ?_⟩
    have hm := List.mem_filter.mp hc
    have hlt : c.1 < 0xF000 := by simpa using hm.2
    have := h.2 c hm.1
    simpa [memDefault, hlt] using this
  · simpa [Memory.afterReset] using h

end Sys2Proof.Machine
end

