-- ==== Sys2Proof/Laws/Registers.lean ====
section
/-! SUPPORT. The general registers as bytes of memory: where they lie, and reading after writing. -/

namespace Sys2Proof

/-! ### Words and their bytes -/

/-- The bits of a word made of two bytes. -/
theorem getLsbD_join (h l : Byte) (i : Nat) :
    (join h l).getLsbD i = if i < 8 then l.getLsbD i else h.getLsbD (i - 8) := by
  simp only [join, BitVec.getLsbD_append]

@[simp] theorem lo_join (h l : Byte) : lo (join h l) = l := by
  apply BitVec.eq_of_getLsbD_eq
  intro i hi
  simp [lo, getLsbD_join, hi]

@[simp] theorem hi_join (h l : Byte) : hi (join h l) = h := by
  apply BitVec.eq_of_getLsbD_eq
  intro i hi
  simp [Sys2Proof.hi, getLsbD_join, hi]

@[simp] theorem join_hi_lo (w : Word) : join (hi w) (lo w) = w := by
  apply BitVec.eq_of_getLsbD_eq
  intro i h
  rw [getLsbD_join]
  split
  · next c => simp [lo, c]
  · simp [hi, show i - 8 < 8 by omega, show 8 + (i - 8) = i by omega]

end Sys2Proof

namespace Sys2Proof.Machine

/-! ### Where the registers lie (R21) -/

/-- Reading memory after a store, in one equation. -/
theorem Memory.get_put (m : Memory) (a b : Nat) (v : Byte) : (m.put a v).get b = if b = a then v else m.get b := by
  split
  · next h => subst h; simp
  · next h => exact m.get_put_other h v

/-- Only PSW bits 5 and 3 select the bank. -/
theorem bankOf_lt (psw : Byte) : bankOf psw < 4 := by
  unfold bankOf
  split <;> split <;> omega

/-- Register numbers are below 8. -/
theorem code_lt (r : Reg8) : r.code.toNat < 8 := by cases r <;> decide

/-- The registers lie in the last 32 bytes of the high-speed RAM. -/
theorem regAddr_bounds (psw : Byte) (r : Reg8) : 0xFEE0 ≤ regAddr psw r ∧ regAddr psw r ≤ 0xFEFF := by
  have := bankOf_lt psw
  have := code_lt r
  unfold regAddr
  omega

/-- Registers of one bank have different addresses. -/
@[simp] theorem regAddr_inj {psw : Byte} {r r' : Reg8} : regAddr psw r = regAddr psw r' ↔ r = r' := by
  refine ⟨fun h => ?_, fun h => by rw [h]⟩
  have hc : r.code.toNat = r'.code.toNat := by
    unfold regAddr at h
    have := bankOf_lt psw
    omega
  revert hc
  cases r <;> cases r' <;> decide

@[simp] theorem lowReg_ne_highReg (rp : RegPair) : lowReg rp ≠ highReg rp := by cases rp <;> decide

@[simp] theorem highReg_ne_lowReg (rp : RegPair) : highReg rp ≠ lowReg rp := by cases rp <;> decide

/-! ### Reading after writing -/

@[simp] theorem reg_putReg_same (s : State) (r : Reg8) (v : Byte) : (s.putReg r v).reg r = v := by
  simp [State.reg]

/-- Writing a register leaves the others of the bank. -/
theorem reg_putReg_other (s : State) {r r' : Reg8} (h : r' ≠ r) (v : Byte) : (s.putReg r v).reg r' = s.reg r' := by
  simp [State.reg, Memory.get_put, h]

@[simp] theorem pair_putPair_same (s : State) (rp : RegPair) (w : Word) : (s.putPair rp w).pair rp = w := by
  simp [State.pair, State.reg, Memory.get_put]

/-- Writing a pair leaves the other pairs of the bank. -/
theorem pair_putPair_other (s : State) {rp rp' : RegPair} (h : rp' ≠ rp) (w : Word) :
    (s.putPair rp w).pair rp' = s.pair rp' := by
  cases rp <;> cases rp' <;> first | exact absurd rfl h | simp [State.pair, State.reg, Memory.get_put, lowReg, highReg]

end Sys2Proof.Machine
end

