-- ==== Sys2Proof/Laws/Devices.lean ====
section
/-! SUPPORT. The stored bytes of the special function registers: reading after writing; single bits of a byte. -/

namespace Sys2Proof.Machine

/-! ### Single bits -/

/-- Making a bit of a byte a value changes that bit only. -/
theorem getLsbD_setBit (x : Byte) {n k : Nat} (hk : k < 8) (b : Bool) :
    (setBit x n b).getLsbD k = if k = n then b else x.getLsbD k := by
  cases b <;> by_cases h : k = n <;> simp [setBit, h, hk] <;> omega

/-- PSW keeps every bit of a value but bit 2. -/
theorem getLsbD_pswValue (x : Byte) {k : Nat} (hk : k < 8) : (pswValue x).getLsbD k = (x.getLsbD k && k != 2) := by
  match k, hk with
  | 0, _ | 1, _ | 2, _ | 3, _ | 4, _ | 5, _ | 6, _ | 7, _ => simp [pswValue]

/-! ### Registers by name -/

/-- Reading a register that was written gives the byte. -/
@[simp] theorem Devices.rd_wr_same (d : Devices) (r : Sfr) (v : Byte) : (d.wr r v).rd r = v :=
  Cells.read_write_same _ _ _

/-- The address of a register names it. -/
theorem Sfr.ofAddr_addr (r : Sfr) : Sfr.ofAddr r.addr = some r := by
  cases r <;> rfl

/-- Registers have different addresses. -/
theorem Sfr.addr_inj {r r' : Sfr} (h : r.addr = r'.addr) : r = r' := by
  have := Sfr.ofAddr_addr r
  rw [h, Sfr.ofAddr_addr r'] at this
  exact (Option.some.inj this).symm

/-- Reading another register gives what it gave before. -/
theorem Devices.rd_wr_other (d : Devices) {r r' : Sfr} (h : r' ≠ r) (v : Byte) : (d.wr r v).rd r' = d.rd r' :=
  Cells.read_write_other _ (fun e => h (Sfr.addr_inj e)) _

/-! ### Addresses without a register (U3) -/

/-- A read where no register is gives a free byte and records a fault. -/
theorem Devices.sfrRead_of_regAt_none {d : Devices} {u : AccessUnit} {a : Nat} (h : d.regAt a = none) :
    d.sfrRead u a = .next (d.note a).drawByte := by
  simp [Devices.sfrRead, h]

/-- A write where no register is records a fault and does nothing else. -/
theorem Devices.sfrWrite_of_regAt_none {d : Devices} {u : AccessUnit} {a : Nat} (h : d.regAt a = none) (v : Byte) :
    d.sfrWrite u a v = .next (d.note a) := by
  simp [Devices.sfrWrite, h]

/-- Every product has the interrupt request registers at FFE0H to FFEBH, so an access where no register is holds no request. -/
theorem holdsAt_of_regAt_none {d : Devices} {a : Nat} (h : d.regAt a = none) : holdsAt a = false := by
  cases hc : holdsAt a with
  | false => rfl
  | true =>
    obtain ⟨k, hk, rfl⟩ : ∃ k < 12, a = 0xFFE0 + k := ⟨a - 0xFFE0, by simp [holdsAt] at hc; omega⟩
    have mounted : ∀ k < 12, ((Sfr.ofAddr (0xFFE0 + k)).any fun r => r.on d.chip.product) = true := by
      generalize d.chip.product = p
      obtain ⟨x, y⟩ := p
      cases x <;> cases y <;> decide
    have hm := mounted k hk
    revert h hm
    unfold Devices.regAt
    cases Sfr.ofAddr (0xFFE0 + k) <;> simp +contextual

end Sys2Proof.Machine
end

