-- ==== Sys2Proof/Laws/Invariant.lean ====
section
/-! SUPPORT. What each shared operation keeps: memory in canonical form and PSW bit 2 zero. An instruction is a short
combination of these operations, so the invariant of `Safety` follows from these lemmas and the boundary. -/

namespace Sys2Proof.Machine

/-- The part of the invariant that an instruction keeps from its start to its end. -/
structure Sound (s : State) : Prop where
  memCanonical : s.mem.wf = true
  pswBit2      : s.psw.getLsbD 2 = false

namespace Sound

/-! ### Registers and PSW -/

theorem putRegOf {s : State} (h : Sound s) (p : Byte) (r : Reg8) (v : Byte) : Sound (s.putRegOf p r v) :=
  ⟨Memory.wf_put h.1 _ _, h.2⟩

theorem putReg {s : State} (h : Sound s) (r : Reg8) (v : Byte) : Sound (s.putReg r v) := h.putRegOf s.psw r v

theorem putPair {s : State} (h : Sound s) (rp : RegPair) (w : Word) : Sound (s.putPair rp w) :=
  (h.putReg _ _).putReg _ _

theorem putPsw {s : State} (h : Sound s) (v : Byte) : Sound (s.putPsw v) := ⟨h.1, pswValue_bit2 _⟩

theorem putFlags {s : State} (h : Sound s) (o : AluOut) : Sound (s.putFlags o) := ⟨h.1, flagsInto_bit2 _ _ _ _⟩

theorem putFlags16 {s : State} (h : Sound s) (w : Word) (c : Bool) : Sound (s.putFlags16 w c) :=
  ⟨h.1, flagsInto_bit2 _ _ _ _⟩

theorem touch {s : State} (h : Sound s) (a : Nat) : Sound (s.touch a) := by
  unfold State.touch
  split <;> exact ⟨h.1, h.2⟩

/-! ### Memory -/

theorem load {s t : State} {u : AccessUnit} {ea : Word} {v : Byte} (h : Sound s) (e : s.load u ea = .next (v, t)) :
    Sound t :=
  have l := load_spec e
  ⟨l.mem ▸ h.1, l.psw ▸ h.2⟩

theorem store {s t : State} {u : AccessUnit} {ea : Word} {v : Byte} (h : Sound s) (e : s.store u ea v = .next t) :
    Sound t := by
  simp only [State.store] at e
  cases ha : s.dev.area ea.toNat <;> simp only [ha] at e
  case ram => cases e; exact ⟨Memory.wf_put h.1 _ _, h.2⟩
  case psw => cases e; exact h.putPsw v
  case sfr =>
    split at e
    · cases e; exact ⟨h.1, h.2⟩
    · obtain ⟨d, -, e⟩ := andThen_eq_next.mp e
      cases e
      exact touch (s := { s with dev := d }) ⟨h.1, h.2⟩ _
  all_goals cases e; exact ⟨h.1, h.2⟩

theorem loadWord {s t : State} {ea v : Word} (h : Sound s) (e : s.loadWord ea = .next (v, t)) : Sound t := by
  unfold State.loadWord at e
  split at e
  · cases e
  · cases ha : s.dev.area ea.toNat <;> simp only [ha] at e
    case sp => cases e; exact h
    case psw => cases e
    case sfr =>
      split at e
      · cases e; exact ⟨h.1, h.2⟩
      · obtain ⟨w, d, -, e⟩ := andThen2_eq_next.mp e
        cases e
        exact touch (s := { s with dev := d }) ⟨h.1, h.2⟩ _
    all_goals
      obtain ⟨l, u, hu, e⟩ := andThen2_eq_next.mp e
      obtain ⟨b, w, hw, e⟩ := andThen2_eq_next.mp e
      cases e
      exact (h.load hu).load hw

theorem storeWord {s t : State} {ea v : Word} (h : Sound s) (e : s.storeWord ea v = .next t) : Sound t := by
  unfold State.storeWord at e
  split at e
  · cases e
  · cases ha : s.dev.area ea.toNat <;> simp only [ha] at e
    case sp => cases e; exact ⟨h.1, h.2⟩
    case psw => cases e
    case sfr =>
      split at e
      · cases e; exact ⟨h.1, h.2⟩
      · obtain ⟨d, -, e⟩ := andThen_eq_next.mp e
        cases e
        exact touch (s := { s with dev := d }) ⟨h.1, h.2⟩ _
    all_goals
      obtain ⟨u, hu, e⟩ := andThen_eq_next.mp e
      exact (h.store hu).store e

theorem loadBit {s t : State} {ea : Word} {n : BitNo} {b : Bool} (h : Sound s) (e : s.loadBit ea n = .next (b, t)) :
    Sound t := by
  obtain ⟨v, u, hu, e⟩ := andThen2_eq_next.mp e
  cases e
  exact h.load hu

theorem midway {s : State} (h : Sound s) : Sound s.midway :=
  ⟨by simpa using h.1, by simpa using h.2⟩

theorem modify {s t : State} {u : AccessUnit} {ea : Word} {f : Byte → Option Byte} {v : Byte} (h : Sound s)
    (e : s.modify u ea f = .next (v, t)) : Sound t := by
  obtain ⟨r, hr, ⟨-, rfl⟩ | ⟨w, -, hw⟩⟩ := modify_eq_next.mp e
  · exact h.load hr
  · exact (h.load hr).midway.store hw

theorem storeBit {s t : State} {ea : Word} {n : BitNo} {b : Bool} (h : Sound s) (e : s.storeBit ea n b = .next t) :
    Sound t := by
  obtain ⟨v, u, hu, e⟩ := andThen2_eq_next.mp e
  cases e
  exact h.modify hu

theorem testClear {s t : State} {ea : Word} {n : BitNo} {b : Bool} (h : Sound s)
    (e : s.testClear ea n = .next (b, t)) : Sound t := by
  obtain ⟨v, u, hu, e⟩ := andThen2_eq_next.mp e
  cases e
  exact h.modify hu

/-! ### The stack, and exceptions -/

theorem storeDown {vs : List Byte} : ∀ {s t : State} {top : Word}, Sound s → s.storeDown top vs = .next t → Sound t := by
  induction vs with
  | nil => intro s t top h e; cases e; exact h
  | cons v vs ih =>
    intro s t top h e
    obtain ⟨u, hu, e⟩ := andThen_eq_next.mp e
    exact ih (h.store hu) e

theorem push {s t : State} {vs : List Byte} (h : Sound s) (e : s.push vs = .next t) : Sound t := by
  obtain ⟨u, hu, e⟩ := andThen_eq_next.mp e
  cases e
  have := storeDown h hu
  exact ⟨this.1, this.2⟩

theorem peekWord {s t : State} {w : Word} (h : Sound s) (e : s.peekWord = .next (w, t)) : Sound t := by
  obtain ⟨b, u, hu, e⟩ := andThen2_eq_next.mp e
  obtain ⟨l, x, hx, e⟩ := andThen2_eq_next.mp e
  cases e
  exact (h.load hu).load hx

theorem popWord {s t : State} {w : Word} (h : Sound s) (e : s.popWord = .next (w, t)) : Sound t := by
  obtain ⟨b, u, hu, e⟩ := andThen2_eq_next.mp e
  cases e
  have := h.peekWord hu
  exact ⟨this.1, this.2⟩

theorem popByte {s t : State} {v : Byte} (h : Sound s) (e : s.popByte = .next (v, t)) : Sound t := by
  obtain ⟨b, u, hu, e⟩ := andThen2_eq_next.mp e
  cases e
  have := h.load hu
  exact ⟨this.1, this.2⟩

theorem callTo {s t : State} {target : Word} (h : Sound s) (e : s.callTo target = .next t) : Sound t := by
  obtain ⟨u, hu, e⟩ := andThen_eq_next.mp e
  cases e
  have := h.push hu
  exact ⟨this.1, this.2⟩

theorem enter {s t : State} {vector : Nat} {isp : Option Bool} (h : Sound s) (e : s.enter vector isp = .next t) :
    Sound t := by
  obtain ⟨u, hu, e⟩ := andThen_eq_next.mp e
  cases e
  have := h.push hu
  cases isp <;> exact ⟨this.1, pswValue_bit2 _⟩

theorem leave {s t : State} (h : Sound s) (e : s.leave = .next t) : Sound t := by
  obtain ⟨w, u, hu, e⟩ := andThen2_eq_next.mp e
  obtain ⟨v, x, hx, e⟩ := andThen2_eq_next.mp e
  cases e
  have := ((h.peekWord hu).load hx).putPsw v
  exact ⟨this.1, this.2⟩

theorem acceptInterrupt {s t : State} (h : Sound s) (e : s.acceptInterrupt = .next t) : Sound t := by
  unfold State.acceptInterrupt at e
  split at e
  · split at e
    · next n low _ _ =>
      exact enter (s := { s with dev := s.dev.putBit (flagReg (n / 8)) (n % 8) false }) ⟨h.1, h.2⟩ e
    · cases e; exact h
  · cases e; exact h

theorem leftover {s : State} (h : Sound s) : Sound s.leftover := by
  unfold State.leftover
  split
  · exact h
  · exact ⟨h.1, h.2⟩

/-! ### Shared bodies of meanings -/

theorem loadA {s t : State} {ea : Word} (h : Sound s) (e : s.loadA ea = .next t) : Sound t := by
  obtain ⟨v, u, hu, e⟩ := andThen2_eq_next.mp e
  cases e
  exact (h.load hu).putReg _ _

theorem exchangeA {s t : State} {ea : Word} (h : Sound s) (e : s.exchangeA ea = .next t) : Sound t := by
  obtain ⟨v, u, hu, e⟩ := andThen2_eq_next.mp e
  cases e
  exact (h.modify hu).putRegOf _ _ _

theorem loadAx {s t : State} {ea : Word} (h : Sound s) (e : s.loadAx ea = .next t) : Sound t := by
  obtain ⟨v, u, hu, e⟩ := andThen2_eq_next.mp e
  cases e
  exact (h.loadWord hu).putPair _ _

theorem aluReg {s : State} (h : Sound s) (op : AluOp) (r : Reg8) (b : Byte) : Sound (s.aluReg op r b) := by
  unfold State.aluReg
  dsimp only
  split
  · exact (h.putReg _ _).putFlags _
  · exact h.putFlags _

theorem aluFromMem {s t : State} {op : AluOp} {ea : Word} (h : Sound s) (e : s.aluFromMem op ea = .next t) :
    Sound t := by
  obtain ⟨v, u, hu, e⟩ := andThen2_eq_next.mp e
  cases e
  exact (h.load hu).aluReg _ _ _

theorem aluToMem {s t : State} {op : AluOp} {ea : Word} {b : Byte} (h : Sound s) (e : s.aluToMem op ea b = .next t) :
    Sound t := by
  obtain ⟨v, u, hu, e⟩ := andThen2_eq_next.mp e
  cases e
  exact (h.modify hu).putFlags _

theorem countMem {s t : State} {ea : Word} {f : Byte → AluOut} (h : Sound s) (e : s.countMem ea f = .next t) :
    Sound t := by
  obtain ⟨v, u, hu, e⟩ := andThen2_eq_next.mp e
  cases e
  exact (h.modify hu).putFlags _

theorem rotateDigits {s t : State} {f : Byte → Byte → Byte} {g : Byte → Byte → Byte → Byte} (h : Sound s)
    (e : s.rotateDigits f g = .next t) : Sound t := by
  obtain ⟨m, u, hu, rfl⟩ := rotateDigits_eq_next.mp e
  exact (h.modify hu).putRegOf _ _ _

theorem branchIf {s : State} (h : Sound s) (c : Bool) (disp : Byte) : Sound (s.branchIf c disp) := by
  unfold State.branchIf
  split
  · exact ⟨h.1, h.2⟩
  · exact h

/-! ### Reset -/

theorem takeReset {s : State} (h : Sound s) (c : ResetCause) : Sound (s.takeReset c) :=
  ⟨Memory.wf_afterReset h.1 _, show (0x02#8).getLsbD 2 = false by decide⟩

end Sound

/-! ### Accepting a request makes no use of the moves in the middle of an instruction -/

theorem storeDown_between {vs : List Byte} : ∀ {s t : State} {top : Word}, s.storeDown top vs = .next t →
    t.between = s.between := by
  induction vs with
  | nil => intro s t top e; cases e; rfl
  | cons v vs ih =>
    intro s t top e
    obtain ⟨u, hu, e⟩ := andThen_eq_next.mp e
    exact (ih e).trans (store_spec hu).between

theorem enter_between {s t : State} {vector : Nat} {isp : Option Bool} (e : s.enter vector isp = .next t) :
    t.between = s.between := by
  obtain ⟨u, hu, e⟩ := andThen_eq_next.mp e
  obtain ⟨w, hw, hu⟩ := andThen_eq_next.mp hu
  cases hu
  cases e
  have := storeDown_between hw
  cases isp <;> simpa using this

theorem acceptInterrupt_between {s t : State} (e : s.acceptInterrupt = .next t) : t.between = s.between := by
  unfold State.acceptInterrupt at e
  split at e
  · split at e
    · exact (enter_between (s := { s with dev := _ }) e).trans rfl
    · cases e; rfl
  · cases e; rfl

end Sys2Proof.Machine
end

