-- ==== Sys2Proof/Laws/Mode.lean ====
section
/-! SUPPORT. No move of a clock, a peripheral or the environment changes the standby mode, but that an X1 clock may end the wait after
STOP: one lemma for each operation that a move is made of; and what a move is where no peripheral has free behaviour. -/

namespace Sys2Proof.Machine

/-- The mode of one of two states. -/
@[simp] theorem Devices.mode_ite (c : Prop) [Decidable c] (x y : Devices) :
    (if c then x else y).mode = if c then x.mode else y.mode := by
  split <;> rfl

/-- A fold of operations that keep the mode keeps it. -/
theorem Devices.mode_foldl {α : Type} {f : Devices → α → Devices} (h : ∀ e a, (f e a).mode = e.mode) :
    ∀ (l : List α) (d : Devices), (l.foldl f d).mode = d.mode
  | [], _ => rfl
  | a :: l, d => (Devices.mode_foldl h l (f d a)).trans (h d a)

/-! ### Shared operations -/

@[simp] theorem Devices.wr_mode (d : Devices) (r : Sfr) (v : Byte) : (d.wr r v).mode = d.mode := by rfl
@[simp] theorem Devices.wrWord_mode (d : Devices) (r : Sfr) (v : Word) : (d.wrWord r v).mode = d.mode := by rfl
@[simp] theorem Devices.putBit_mode (d : Devices) (r : Sfr) (n : Nat) (v : Bool) : (d.putBit r n v).mode = d.mode := by rfl
@[simp] theorem Devices.readAny_mode (d : Devices) : d.readAny.mode = d.mode := by rfl
@[simp] theorem Devices.drawByte_mode (d : Devices) : d.drawByte.2.mode = d.mode := by rfl
@[simp] theorem Devices.drawWord_mode (d : Devices) : d.drawWord.2.mode = d.mode := by rfl
@[simp] theorem Devices.drawBit_mode (d : Devices) : d.drawBit.2.mode = d.mode := by rfl
@[simp] theorem Devices.raise_mode (d : Devices) (s : Source) : (d.raise s).mode = d.mode := by rfl
@[simp] theorem Devices.raiseIf_mode (d : Devices) (c : Bool) (s : Source) : (d.raiseIf c s).mode = d.mode := by
  simp [Devices.raiseIf]
@[simp] theorem Devices.requestReset_mode (d : Devices) (c : ResetCause) : (d.requestReset c).mode = d.mode := by rfl
@[simp] theorem Devices.makeWild_mode (d : Devices) (b : Block) : (d.makeWild b).mode = d.mode := by simp [Devices.makeWild]
@[simp] theorem Devices.resume_mode (d : Devices) (b : Block) : (d.resume b).mode = d.mode := by simp [Devices.resume]

/-! ### Pins and ports -/

@[simp] theorem Devices.intpEvents_mode (d before : Devices) : (d.intpEvents before).mode = d.mode :=
  Devices.mode_foldl (fun e _ => by simp) _ d
@[simp] theorem Devices.keyEvents_mode (d before : Devices) : (d.keyEvents before).mode = d.mode := by simp [Devices.keyEvents]

/-! ### Timer 00 -/

@[simp] theorem Devices.tm00Toggle_mode (d : Devices) : d.tm00Toggle.mode = d.mode := by rfl
@[simp] theorem Devices.tm00Invert_mode (d : Devices) (c : Bool) : (d.tm00Invert c).mode = d.mode := by
  simp [Devices.tm00Invert]
@[simp] theorem Devices.tm00Clear_mode (d : Devices) : d.tm00Clear.mode = d.mode := by rfl
@[simp] theorem Devices.tm00Shot_mode (d : Devices) : d.tm00Shot.mode = d.mode := by rfl
@[simp] theorem Devices.tm00Pending_mode (d : Devices) : d.tm00Pending.mode = d.mode := by simp [Devices.tm00Pending]
@[simp] theorem Devices.tm00Count_mode (d : Devices) : d.tm00Count.mode = d.mode := by simp [Devices.tm00Count]
@[simp] theorem Devices.tm00ValidEdge0_mode (d : Devices) : d.tm00ValidEdge0.mode = d.mode := by simp [Devices.tm00ValidEdge0]
@[simp] theorem Devices.tm00ReverseEdge0_mode (d : Devices) : d.tm00ReverseEdge0.mode = d.mode := by
  simp [Devices.tm00ReverseEdge0]
@[simp] theorem Devices.tm00ValidEdge1_mode (d : Devices) : d.tm00ValidEdge1.mode = d.mode := by simp [Devices.tm00ValidEdge1]
@[simp] theorem Devices.tm00Sample0_mode (d : Devices) : d.tm00Sample0.2.mode = d.mode := by rfl
@[simp] theorem Devices.tm00Sample1_mode (d : Devices) : d.tm00Sample1.2.mode = d.mode := by rfl
@[simp] theorem Devices.tm00Trigger0_mode (d : Devices) : d.tm00Trigger0.mode = d.mode := by simp [Devices.tm00Trigger0]
@[simp] theorem Devices.tm00Trigger1_mode (d : Devices) : d.tm00Trigger1.mode = d.mode := by simp [Devices.tm00Trigger1]
@[simp] theorem Devices.tm00Clock_mode (d : Devices) : d.tm00Clock.mode = d.mode := by simp [Devices.tm00Clock]
@[simp] theorem Devices.tm00ExternalEdge_mode (d : Devices) : d.tm00ExternalEdge.mode = d.mode := by
  simp [Devices.tm00ExternalEdge]
@[simp] theorem Devices.tm00External_mode (d : Devices) : d.tm00External.mode = d.mode := by simp [Devices.tm00External]
@[simp] theorem Devices.tm00StopEvent_mode (d before : Devices) : (d.tm00StopEvent before).mode = d.mode := by
  simp [Devices.tm00StopEvent]

/-! ### 8-bit timers -/

@[simp] theorem Devices.putTm5_mode (d : Devices) (i : Ch3) (t : Tm5) : (d.putTm5 i t).mode = d.mode := by cases i <;> rfl
@[simp] theorem Devices.putTmh_mode (d : Devices) (i : Ch3) (t : TmH) : (d.putTmh i t).mode = d.mode := by cases i <;> rfl
@[simp] theorem Devices.tm51Match_mode (d : Devices) : d.tm51Match.mode = d.mode := by simp [Devices.tm51Match]
@[simp] theorem Devices.tm5Match_mode (d : Devices) (i : Ch3) : (d.tm5Match i).mode = d.mode := by
  unfold Devices.tm5Match
  split <;> simp
@[simp] theorem Devices.tm5Hit_mode (d : Devices) (i : Ch3) : (d.tm5Hit i).mode = d.mode := by simp [Devices.tm5Hit]
@[simp] theorem Devices.tm5PwmClock_mode (d : Devices) (i : Ch3) : (d.tm5PwmClock i).mode = d.mode := by
  simp [Devices.tm5PwmClock]
@[simp] theorem Devices.tm5PlainClock_mode (d : Devices) (i : Ch3) : (d.tm5PlainClock i).mode = d.mode := by
  simp [Devices.tm5PlainClock]
@[simp] theorem Devices.tm5Clock_mode (d : Devices) (i : Ch3) : (d.tm5Clock i).mode = d.mode := by simp [Devices.tm5Clock]
@[simp] theorem Devices.tm5Tick_mode (d : Devices) (i : Ch3) : (d.tm5Tick i).mode = d.mode := by simp [Devices.tm5Tick]
@[simp] theorem Devices.ti5Count_mode (d : Devices) (i : Ch3) : (d.ti5Count i).mode = d.mode := by
  unfold Devices.ti5Count
  split <;> simp
@[simp] theorem Devices.ti5Event_mode (d before : Devices) (i : Ch3) : (d.ti5Event before i).mode = d.mode := by
  unfold Devices.ti5Event
  repeat' split
  all_goals simp
@[simp] theorem Devices.tmhTransfer_mode (d : Devices) (i : Ch3) : (d.tmhTransfer i).mode = d.mode := by
  simp only [Devices.tmhTransfer]
  repeat' split
  all_goals simp
@[simp] theorem Devices.tmhInterval_mode (d : Devices) (i : Ch3) : (d.tmhInterval i).mode = d.mode := by
  simp [Devices.tmhInterval]
@[simp] theorem Devices.tmhPwm_mode (d : Devices) (i : Ch3) : (d.tmhPwm i).mode = d.mode := by simp [Devices.tmhPwm]
@[simp] theorem Devices.toh1Carrier_mode (d : Devices) (edge : Bool) : (d.toh1Carrier edge).mode = d.mode := by rfl
@[simp] theorem Devices.tmhCarrier_mode (d : Devices) : d.tmhCarrier.mode = d.mode := by simp [Devices.tmhCarrier]
@[simp] theorem Devices.nrzClock_mode (d : Devices) : d.nrzClock.mode = d.mode := by
  unfold Devices.nrzClock
  split <;> simp
@[simp] theorem Devices.tmhClock_mode (d : Devices) (i : Ch3) : (d.tmhClock i).mode = d.mode := by
  simp only [Devices.tmhClock]
  repeat' split
  all_goals simp

/-! ### Watchdog -/

@[simp] theorem Devices.wdtOverflows_mode (d : Devices) (n : Nat) : (d.wdtOverflows n).2.mode = d.mode := by
  unfold Devices.wdtOverflows
  repeat' split
  all_goals simp
@[simp] theorem Devices.wdtClock_mode (d : Devices) : d.wdtClock.mode = d.mode := by simp [Devices.wdtClock]

/-! ### Clocks and outputs -/

theorem Devices.x1Clock_mode {d : Devices} (h : d.mode ≠ .stabilise) : d.x1Clock.mode = d.mode := by
  simp [Devices.x1Clock, h]
@[simp] theorem Devices.finishCss_mode (d : Devices) : d.finishCss.mode = d.mode := by
  unfold Devices.finishCss
  split <;> simp
@[simp] theorem Devices.finishMcs_mode (d : Devices) : d.finishMcs.mode = d.mode := by
  unfold Devices.finishMcs
  split <;> simp
@[simp] theorem Devices.pclClock_mode (d : Devices) : d.pclClock.mode = d.mode := by rfl
@[simp] theorem Devices.prsOutputs_mode (d : Devices) : d.prsOutputs.mode = d.mode := by simp [Devices.prsOutputs]
@[simp] theorem Devices.subOutputs_mode (d : Devices) : d.subOutputs.mode = d.mode := by simp [Devices.subOutputs]
@[simp] theorem Devices.lviCompare_mode (d : Devices) : d.lviCompare.mode = d.mode := by
  simp only [Devices.lviCompare, Devices.drawBit]
  repeat' split
  all_goals simp
@[simp] theorem Devices.pocCompare_mode (d : Devices) : d.pocCompare.mode = d.mode := by simp [Devices.pocCompare]

/-! ### A/D converters -/

@[simp] theorem Devices.adcBegin_mode (d : Devices) : d.adcBegin.mode = d.mode := by rfl
@[simp] theorem Devices.adcFinish_mode (d : Devices) : d.adcFinish.mode = d.mode := by
  simp only [Devices.adcFinish, Devices.drawWord]
  repeat' split
  all_goals simp
@[simp] theorem Devices.adcDisturb_mode (d : Devices) (c : Bool) : (d.adcDisturb c).mode = d.mode := by
  simp [Devices.adcDisturb]
@[simp] theorem Devices.adcClock_mode (d : Devices) : d.adcClock.mode = d.mode := by simp [Devices.adcClock]
@[simp] theorem Devices.freeAdcr_mode (d : Devices) : d.freeAdcr.mode = d.mode := by rfl
@[simp] theorem Devices.dsadResult_mode (d : Devices) : d.dsadResult.2.mode = d.mode := by
  unfold Devices.dsadResult
  split <;> simp
@[simp] theorem Devices.dsadFinish_mode (d : Devices) : d.dsadFinish.mode = d.mode := by simp [Devices.dsadFinish]
@[simp] theorem Devices.dsadStep_mode (d : Devices) : d.dsadStep.mode = d.mode := by simp [Devices.dsadStep]
@[simp] theorem Devices.dsadClock_mode (d : Devices) : d.dsadClock.mode = d.mode := by simp [Devices.dsadClock]
@[simp] theorem Devices.dsadSubClock_mode (d : Devices) : d.dsadSubClock.mode = d.mode := by simp [Devices.dsadSubClock]

/-! ### UARTs -/

@[simp] theorem Devices.tx0Clock_mode (d : Devices) : d.tx0Clock.mode = d.mode := by simp [Devices.tx0Clock]
@[simp] theorem Devices.rx0Finish_mode (d : Devices) : d.rx0Finish.mode = d.mode := by simp [Devices.rx0Finish]
@[simp] theorem Devices.rx0Clock_mode (d : Devices) : d.rx0Clock.mode = d.mode := by
  simp only [Devices.rx0Clock]
  repeat' split
  all_goals simp
@[simp] theorem Devices.uart0Clock_mode (d : Devices) : d.uart0Clock.mode = d.mode := by simp [Devices.uart0Clock]
@[simp] theorem Devices.loadTxs6_mode (d : Devices) : d.loadTxs6.mode = d.mode := by rfl
@[simp] theorem Devices.tx6LastBit_mode (d : Devices) : d.tx6LastBit.mode = d.mode := by simp [Devices.tx6LastBit]
@[simp] theorem Devices.tx6Empty_mode (d : Devices) : d.tx6Empty.mode = d.mode := by simp [Devices.tx6Empty]
@[simp] theorem Devices.tx6Clock_mode (d : Devices) : d.tx6Clock.mode = d.mode := by
  unfold Devices.tx6Clock
  repeat' split
  all_goals simp
@[simp] theorem Devices.rx6Finish_mode (d : Devices) : d.rx6Finish.mode = d.mode := by simp [Devices.rx6Finish]
@[simp] theorem Devices.sbfStop_mode (d : Devices) (n : Nat) : (d.sbfStop n).mode = d.mode := by simp [Devices.sbfStop]
@[simp] theorem Devices.rx6Bit_mode (d : Devices) (r : UartRx) (n : Nat) : (d.rx6Bit r n).mode = d.mode := by
  simp [Devices.rx6Bit]
@[simp] theorem Devices.rx6Clock_mode (d : Devices) : d.rx6Clock.mode = d.mode := by
  simp only [Devices.rx6Clock]
  repeat' split
  all_goals simp
@[simp] theorem Devices.uart6Clock_mode (d : Devices) : d.uart6Clock.mode = d.mode := by simp [Devices.uart6Clock]

/-! ### CSI10 and CSIA0 -/

@[simp] theorem Devices.csi10Out_mode (d : Devices) : d.csi10Out.mode = d.mode := by rfl
@[simp] theorem Devices.csi10Capture_mode (d : Devices) : d.csi10Capture.mode = d.mode := by rfl
@[simp] theorem Devices.csi10Finish_mode (d : Devices) : d.csi10Finish.mode = d.mode := by rfl
@[simp] theorem Devices.csi10Edge_mode (d : Devices) : d.csi10Edge.mode = d.mode := by simp [Devices.csi10Edge]
@[simp] theorem Devices.csi10Clock_mode (d : Devices) : d.csi10Clock.mode = d.mode := by simp [Devices.csi10Clock]
@[simp] theorem Devices.csi10Event_mode (d before : Devices) : (d.csi10Event before).mode = d.mode := by
  simp [Devices.csi10Event]
@[simp] theorem Devices.csiaBegin_mode (d : Devices) : d.csiaBegin.mode = d.mode := by rfl
@[simp] theorem Devices.csiaLoad_mode (d : Devices) : d.csiaLoad.mode = d.mode := by rfl
@[simp] theorem Devices.csiaStart_mode (d : Devices) : d.csiaStart.mode = d.mode := by rfl
@[simp] theorem Devices.csiaEnd_mode (d : Devices) : d.csiaEnd.mode = d.mode := by rfl
@[simp] theorem Devices.csiaNext_mode (d : Devices) : d.csiaNext.mode = d.mode := by simp [Devices.csiaNext]
@[simp] theorem Devices.csiaByteDone_mode (d : Devices) : d.csiaByteDone.mode = d.mode := by simp [Devices.csiaByteDone]
@[simp] theorem Devices.csiaEdge_mode (d : Devices) : d.csiaEdge.mode = d.mode := by
  simp only [Devices.csiaEdge, Devices.drawBit]
  repeat' split
  all_goals simp
@[simp] theorem Devices.csiaClock_mode (d : Devices) : d.csiaClock.mode = d.mode := by simp [Devices.csiaClock]
@[simp] theorem Devices.csiaEvent_mode (d before : Devices) : (d.csiaEvent before).mode = d.mode := by simp [Devices.csiaEvent]
@[simp] theorem Devices.freeBuffer_mode (d : Devices) : d.freeBuffer.mode = d.mode :=
  Devices.mode_foldl (fun e _ => by simp [Devices.drawByte]) _ d

/-! ### LCD -/

@[simp] theorem Devices.lcdClock_mode (d : Devices) : d.lcdClock.mode = d.mode := by simp [Devices.lcdClock]

/-! ### Manchester code generator -/

@[simp] theorem Devices.mcgLoad_mode (d : Devices) : d.mcgLoad.mode = d.mode := by rfl
@[simp] theorem Devices.mcgDone_mode (d : Devices) : d.mcgDone.mode = d.mode := by simp [Devices.mcgDone]
@[simp] theorem Devices.mcgClock_mode (d : Devices) : d.mcgClock.mode = d.mode := by
  unfold Devices.mcgClock
  repeat' split
  all_goals simp

/-! ### Remote-control receiver -/

@[simp] theorem Devices.rmRequest_mode (d : Devices) (n : Nat) : (d.rmRequest n).mode = d.mode := by rfl
@[simp] theorem Devices.rmClear_mode (d : Devices) : d.rmClear.mode = d.mode := by rfl
@[simp] theorem Devices.rmGo_mode (d : Devices) (p : RemotePhase) : (d.rmGo p).mode = d.mode := by rfl
@[simp] theorem Devices.rmData_mode (d : Devices) : d.rmData.mode = d.mode := by rfl
@[simp] theorem Devices.rmError_mode (d : Devices) (edge : Bool) : (d.rmError edge).mode = d.mode := by simp [Devices.rmError]
@[simp] theorem Devices.rmBit_mode (d : Devices) (b : Bool) : (d.rmBit b).mode = d.mode := by simp [Devices.rmBit]
@[simp] theorem Devices.rmEnd_mode (d : Devices) : d.rmEnd.mode = d.mode := by simp [Devices.rmEnd]
@[simp] theorem Devices.rmEndStart_mode (d : Devices) : d.rmEndStart.mode = d.mode := by rfl
@[simp] theorem Devices.rmEdge_mode (d : Devices) (n : Nat) : (d.rmEdge n).mode = d.mode := by
  unfold Devices.rmEdge
  split <;> simp
@[simp] theorem Devices.rmLong_mode (d : Devices) (n : Nat) : (d.rmLong n).mode = d.mode := by
  unfold Devices.rmLong
  split <;> simp
@[simp] theorem Devices.rmEndCount_mode (d : Devices) : d.rmEndCount.mode = d.mode := by simp [Devices.rmEndCount]
@[simp] theorem Devices.rmSample_mode (d : Devices) : d.rmSample.2.mode = d.mode := by rfl
@[simp] theorem Devices.rmStep_mode (d : Devices) : d.rmStep.mode = d.mode := by simp [Devices.rmStep]
@[simp] theorem Devices.remoteClock_mode (d : Devices) : d.remoteClock.mode = d.mode := by simp [Devices.remoteClock]

/-! ### Real-time counter -/

@[simp] theorem Devices.rtcArrive_mode (d : Devices) : d.rtcArrive.mode = d.mode :=
  Devices.mode_foldl (fun e _ => by simp [Devices.drawBit]) _ _
@[simp] theorem Devices.rtcPeriod_mode (d : Devices) (c : Bool) : (d.rtcPeriod c).mode = d.mode := by simp [Devices.rtcPeriod]
@[simp] theorem Devices.rtcYearUp_mode (d : Devices) : d.rtcYearUp.mode = d.mode := by simp [Devices.rtcYearUp]
@[simp] theorem Devices.rtcMonthUp_mode (d : Devices) : d.rtcMonthUp.mode = d.mode := by simp [Devices.rtcMonthUp]
@[simp] theorem Devices.rtcDayUp_mode (d : Devices) : d.rtcDayUp.mode = d.mode := by simp [Devices.rtcDayUp]
@[simp] theorem Devices.rtcHourUp_mode (d : Devices) : d.rtcHourUp.mode = d.mode := by simp [Devices.rtcHourUp]
@[simp] theorem Devices.rtcMinuteUp_mode (d : Devices) : d.rtcMinuteUp.mode = d.mode := by simp [Devices.rtcMinuteUp]
@[simp] theorem Devices.rtcAlarm_mode (d : Devices) : d.rtcAlarm.mode = d.mode := by simp [Devices.rtcAlarm]
@[simp] theorem Devices.rtcSecondUp_mode (d : Devices) : d.rtcSecondUp.mode = d.mode := by simp [Devices.rtcSecondUp]
@[simp] theorem Devices.rtcSubCount_mode (d : Devices) : d.rtcSubCount.mode = d.mode := by simp [Devices.rtcSubCount]
@[simp] theorem Devices.rtcInterval_mode (d : Devices) : d.rtcInterval.mode = d.mode := by simp [Devices.rtcInterval]
@[simp] theorem Devices.rtcWait_mode (d : Devices) : d.rtcWait.mode = d.mode := by simp [Devices.rtcWait]
@[simp] theorem Devices.rtcAlarmFlag_mode (d : Devices) : d.rtcAlarmFlag.mode = d.mode := by simp [Devices.rtcAlarmFlag]
@[simp] theorem Devices.rtcDividers_mode (d : Devices) : d.rtcDividers.mode = d.mode := by rfl
@[simp] theorem Devices.rtcClock_mode (d : Devices) : d.rtcClock.mode = d.mode := by simp [Devices.rtcClock]

/-! ### Pin events -/

@[simp] theorem Devices.tm50Follow_mode (d before : Devices) : (d.tm50Follow before).mode = d.mode := by
  simp [Devices.tm50Follow]
@[simp] theorem Devices.tmh1Follow_mode (d before : Devices) : (d.tmh1Follow before).mode = d.mode := by
  simp [Devices.tmh1Follow]
@[simp] theorem Devices.clockEvents_mode (d before : Devices) : (d.clockEvents before).mode = d.mode := by
  simp [Devices.clockEvents]
@[simp] theorem Devices.pinsMoved_mode (d before : Devices) : (d.pinsMoved before).mode = d.mode := by simp [Devices.pinsMoved]
@[simp] theorem Devices.momentPasses_mode (d before : Devices) : (d.momentPasses before).mode = d.mode := by
  simp [Devices.momentPasses]
@[simp] theorem Devices.mayRaise_mode (d : Devices) (c : Bool) (s : Source) : (d.mayRaise c s).mode = d.mode := by
  simp [Devices.mayRaise]

/-! ### Source clocks and moves -/

@[simp] theorem Devices.freeReg_mode (d : Devices) (mask : Byte) (r : Sfr) : (d.freeReg mask r).mode = d.mode := by rfl
@[simp] theorem Devices.freeWordReg_mode (d : Devices) (r : Sfr) : (d.freeWordReg r).mode = d.mode := by rfl
@[simp] theorem Devices.freeRaise_mode (d : Devices) (s : Source) : (d.freeRaise s).mode = d.mode := by simp [Devices.freeRaise]
@[simp] theorem Devices.freely_mode (d : Devices) {f : Devices → Devices} (h : ∀ e, (f e).mode = e.mode) :
    (d.freely f).mode = d.mode := by
  simp [Devices.freely, h]
@[simp] theorem Devices.freeTm5_mode (d : Devices) (i : Ch3) : (d.freeTm5 i).mode = d.mode := by simp [Devices.freeTm5]
@[simp] theorem Devices.tmhTake_mode (d : Devices) (i : Ch3) : (d.tmhTake i).mode = d.mode := by simp [Devices.tmhTake]
@[simp] theorem Devices.freeTmh_mode (d : Devices) (i : Ch3) : (d.freeTmh i).mode = d.mode := by simp [Devices.freeTmh]
@[simp] theorem Devices.freeTmh1_mode (d : Devices) : d.freeTmh1.mode = d.mode := by simp [Devices.freeTmh1]
@[simp] theorem Devices.freeTm00_mode (d : Devices) : d.freeTm00.mode = d.mode := by simp [Devices.freeTm00]
@[simp] theorem Devices.freeRtc_mode (d : Devices) : d.freeRtc.mode = d.mode := by simp [Devices.freeRtc]
@[simp] theorem Devices.freeUart6_mode (d : Devices) : d.freeUart6.mode = d.mode := by simp [Devices.freeUart6]
@[simp] theorem Devices.freeRemote_mode (d : Devices) : d.freeRemote.mode = d.mode := by simp [Devices.freeRemote]
@[simp] theorem Devices.freeCsia0_mode (d : Devices) : d.freeCsia0.mode = d.mode := by simp [Devices.freeCsia0]
@[simp] theorem Devices.freeBlock_mode (d : Devices) (b : Block) : (d.freeBlock b).mode = d.mode := by
  unfold Devices.freeBlock
  split <;> simp
@[simp] theorem Devices.freeBlocks_mode (d : Devices) : d.freeBlocks.mode = d.mode :=
  Devices.mode_foldl (fun e _ => by split <;> simp) _ d
@[simp] theorem Devices.onTap_mode (d : Devices) (tap : Option Nat) {f : Devices → Devices} (h : ∀ e, (f e).mode = e.mode) :
    (d.onTap tap f).mode = d.mode := by
  simp [Devices.onTap, h]
@[simp] theorem Devices.prsTimers_mode (d : Devices) : d.prsTimers.mode = d.mode := by simp [Devices.prsTimers]
@[simp] theorem Devices.prsClock_mode (d : Devices) : d.prsClock.mode = d.mode := by simp [Devices.prsClock]
@[simp] theorem Devices.subClock_mode (d : Devices) : d.subClock.mode = d.mode := by simp [Devices.subClock]
@[simp] theorem Devices.rlClock_mode (d : Devices) : d.rlClock.mode = d.mode := by simp [Devices.rlClock]
@[simp] theorem Devices.voltage_mode (d : Devices) (env : Env) : (d.voltage env).mode = d.mode := by simp [Devices.voltage]
/-- No move changes the mode of a chip that does not wait after STOP. -/
theorem Devices.act_mode {d : Devices} (h : d.mode ≠ .stabilise) (m : AgentMove) : (d.act m).mode = d.mode := by
  cases m <;> simp [Devices.act, Devices.x1Clock_mode h]
theorem Devices.move_mode {d : Devices} (h : d.mode ≠ .stabilise) (m : AgentMove) : (d.move m).mode = d.mode := by
  simp [Devices.move, Devices.act_mode (d := d.freeBlocks) (by simpa using h)]

/-! ### Free behaviour -/

/-- Where no peripheral has free behaviour none takes free values. -/
theorem Devices.freeBlocks_none {d : Devices} (h : d.wild = []) : d.freeBlocks = d := by
  simp [Devices.freeBlocks, h]

/-- There a move is what its agent does, and what the inputs see of it. -/
theorem Devices.move_none {d : Devices} (h : d.wild = []) (m : AgentMove) : d.move m = (d.act m).momentPasses d := by
  rw [Devices.move, Devices.freeBlocks_none h]

/-- A timer 5n without free behaviour follows its count clock. -/
theorem Devices.tm5Tick_stated {d : Devices} {i : Ch3} (h : d.isWild (tm5Block i) = false) : d.tm5Tick i = d.tm5Clock i := by
  simp [Devices.tm5Tick, h]

end Sys2Proof.Machine
end

