-- ==== Sys2Proof/Tests/Slice0.lean ====
section
/-! SUPPORT. Tests: ill-formed terms for every check of `WellFormed`, a word for every constructor written out from the
encodings of `spec/opcode_table.json`, single steps with the results of the spec's own examples, and for every statement
with hypotheses a state that meets them. -/

namespace Sys2Proof.Tests

open Sys2Proof Sys2Proof.Machine

/-! ### Helpers -/

/-- Every word decodes to its instruction and leaves nothing over. -/
def decodesAll (ws : List (List Byte × Instr)) : Bool :=
  ws.all fun w => match decode w.1 with
    | .ok (i, rest) => decide (i = w.2) && rest.isEmpty
    | .error _ => false

/-- The bytes are refused for a reason. -/
def refusesAll (ws : List (List Byte)) (e : DecodeError) : Bool :=
  ws.all fun w => match decode w with
    | .ok _ => false
    | .error d => decide (d = e)

/-- A small state: the machine after reset at 1000H with a PSW and some bytes of memory. -/
def cpu (psw : Byte) (cells : List (Nat × Byte)) : State :=
  { State.reset with pc := 0x1000, psw := psw, mem := cells.foldl (fun m c => m.put c.1 c.2) State.reset.mem }

/-- The outcome is a next state with a property. -/
def gives {α : Type} (x : Res α) (p : α → Bool) : Bool :=
  match x with
  | .next t => p t
  | _ => false

/-! ### WellFormed refuses -/

theorem test_wf_saddr_psw : ([.movSaddrImm 0x1E 0, .movASaddr 0x1E, .movSaddrA 0x1E, .set1Saddr 0x1E 0,
    .btSaddr 0x1E 3 0, .mov1CySaddr 0x1E 1] : List Instr).all (fun i => !i.wf) = true := by decide

theorem test_wf_saddrp : ([.movwSaddrpImm 0x1C 0, .movwAxSaddrp 0x1C, .movwSaddrpAx 0x1C, .movwAxSaddrp 0x21,
    .movwSaddrpImm 0xFF 0] : List Instr).all (fun i => !i.wf) = true := by decide

theorem test_wf_even_sfrp : ([.movwSfrpImm 0x11 0, .movwAxSfrp 0x13, .movwSfrpAx 0xE1] : List Instr).all
    (fun i => !i.wf) = true := by decide

theorem test_wf_even_addr : ([.movwAxAddr16 0xFE21, .movwAddr16Ax 0x0001] : List Instr).all (fun i => !i.wf)
    = true := by
  decide

theorem test_wf_register_a : ([.movAR .a, .movRA .a, .xchAR .a, .addAR .a, .cmpAR .a] : List Instr).all
    (fun i => !i.wf) = true := by decide

theorem test_wf_pair_ax : ([.movwAxRp .ax, .movwRpAx .ax, .xchwAxRp .ax] : List Instr).all (fun i => !i.wf) = true := by
  decide

theorem test_wf_ei_di : ([.set1Psw 7, .clr1Psw 7] : List Instr).all (fun i => !i.wf) = true := by decide

theorem test_wf_accepts : ([.movSaddrA 0x1F, .movwAxSaddrp 0x1A, .movAR .h, .addRA .a, .set1Psw 6, .movwAxRp .hl]
    : List Instr).all (fun i => i.wf) = true := by decide

/-! ### Decoding: one word for every constructor, written out from the encodings of the opcode table -/

theorem test_decode_transfer8_1 : decodesAll
    [([0xA3, 0xA7], .movRImm .b 0xA7), ([0x11, 0x34, 0xA7], .movSaddrImm 0x34 0xA7),
     ([0x13, 0x22, 0xA7], .movSfrImm 0x22 0xA7), ([0x63], .movAR .b), ([0x73], .movRA .b),
     ([0xF0, 0x34], .movASaddr 0x34), ([0xF2, 0x34], .movSaddrA 0x34), ([0xF4, 0x22], .movASfr 0x22),
     ([0xF6, 0x22], .movSfrA 0x22), ([0x8E, 0x56, 0xFE], .movAAddr16 0xFE56),
     ([0x9E, 0x56, 0xFE], .movAddr16A 0xFE56), ([0x11, 0x1E, 0xA7], .movPswImm 0xA7), ([0xF0, 0x1E], .movAPsw),
     ([0xF2, 0x1E], .movPswA), ([0x85], .movADe), ([0x95], .movDeA), ([0x87], .movAHl), ([0x97], .movHlA),
     ([0xAE, 0xA7], .movAHlByte 0xA7), ([0xBE, 0xA7], .movHlByteA 0xA7), ([0xAB], .movAHlB), ([0xBB], .movHlBA),
     ([0xAA], .movAHlC), ([0xBA], .movHlCA)] = true := by decide

theorem test_decode_transfer8_2 : decodesAll
    [([0x33], .xchAR .b), ([0x83, 0x34], .xchASaddr 0x34), ([0x93, 0x22], .xchASfr 0x22),
     ([0xCE, 0x56, 0xFE], .xchAAddr16 0xFE56), ([0x05], .xchADe), ([0x07], .xchAHl),
     ([0xDE, 0xA7], .xchAHlByte 0xA7), ([0x31, 0x8B], .xchAHlB), ([0x31, 0x8A], .xchAHlC)] = true := by decide

theorem test_decode_transfer16 : decodesAll
    [([0x14, 0x56, 0xFE], .movwRpImm .de 0xFE56), ([0xEE, 0x34, 0x56, 0xFE], .movwSaddrpImm 0x34 0xFE56),
     ([0xFE, 0x22, 0x56, 0xFE], .movwSfrpImm 0x22 0xFE56), ([0x89, 0x34], .movwAxSaddrp 0x34),
     ([0x99, 0x34], .movwSaddrpAx 0x34), ([0xA9, 0x22], .movwAxSfrp 0x22), ([0xB9, 0x22], .movwSfrpAx 0x22),
     ([0xC4], .movwAxRp .de), ([0xD4], .movwRpAx .de), ([0x02, 0x56, 0xFE], .movwAxAddr16 0xFE56),
     ([0x03, 0x56, 0xFE], .movwAddr16Ax 0xFE56), ([0xE4], .xchwAxRp .de)] = true := by decide

theorem test_decode_add_sub_1 : decodesAll
    [([0x0D, 0xA7], .addAImm 0xA7), ([0x88, 0x34, 0xA7], .addSaddrImm 0x34 0xA7), ([0x61, 0x0B], .addAR .b),
     ([0x61, 0x03], .addRA .b), ([0x0E, 0x34], .addASaddr 0x34), ([0x08, 0x56, 0xFE], .addAAddr16 0xFE56),
     ([0x0F], .addAHl), ([0x09, 0xA7], .addAHlByte 0xA7), ([0x31, 0x0B], .addAHlB), ([0x31, 0x0A], .addAHlC),
     ([0x2D, 0xA7], .addcAImm 0xA7), ([0xA8, 0x34, 0xA7], .addcSaddrImm 0x34 0xA7), ([0x61, 0x2B], .addcAR .b),
     ([0x61, 0x23], .addcRA .b), ([0x2E, 0x34], .addcASaddr 0x34), ([0x28, 0x56, 0xFE], .addcAAddr16 0xFE56),
     ([0x2F], .addcAHl), ([0x29, 0xA7], .addcAHlByte 0xA7), ([0x31, 0x2B], .addcAHlB), ([0x31, 0x2A], .addcAHlC),
     ([0x1D, 0xA7], .subAImm 0xA7), ([0x98, 0x34, 0xA7], .subSaddrImm 0x34 0xA7), ([0x61, 0x1B], .subAR .b),
     ([0x61, 0x13], .subRA .b)] = true := by decide

theorem test_decode_add_sub_2 : decodesAll
    [([0x1E, 0x34], .subASaddr 0x34), ([0x18, 0x56, 0xFE], .subAAddr16 0xFE56), ([0x1F], .subAHl),
     ([0x19, 0xA7], .subAHlByte 0xA7), ([0x31, 0x1B], .subAHlB), ([0x31, 0x1A], .subAHlC),
     ([0x3D, 0xA7], .subcAImm 0xA7), ([0xB8, 0x34, 0xA7], .subcSaddrImm 0x34 0xA7), ([0x61, 0x3B], .subcAR .b),
     ([0x61, 0x33], .subcRA .b), ([0x3E, 0x34], .subcASaddr 0x34), ([0x38, 0x56, 0xFE], .subcAAddr16 0xFE56),
     ([0x3F], .subcAHl), ([0x39, 0xA7], .subcAHlByte 0xA7), ([0x31, 0x3B], .subcAHlB), ([0x31, 0x3A], .subcAHlC)]
    = true := by decide

theorem test_decode_logic_cmp_1 : decodesAll
    [([0x5D, 0xA7], .andAImm 0xA7), ([0xD8, 0x34, 0xA7], .andSaddrImm 0x34 0xA7), ([0x61, 0x5B], .andAR .b),
     ([0x61, 0x53], .andRA .b), ([0x5E, 0x34], .andASaddr 0x34), ([0x58, 0x56, 0xFE], .andAAddr16 0xFE56),
     ([0x5F], .andAHl), ([0x59, 0xA7], .andAHlByte 0xA7), ([0x31, 0x5B], .andAHlB), ([0x31, 0x5A], .andAHlC),
     ([0x6D, 0xA7], .orAImm 0xA7), ([0xE8, 0x34, 0xA7], .orSaddrImm 0x34 0xA7), ([0x61, 0x6B], .orAR .b),
     ([0x61, 0x63], .orRA .b), ([0x6E, 0x34], .orASaddr 0x34), ([0x68, 0x56, 0xFE], .orAAddr16 0xFE56),
     ([0x6F], .orAHl), ([0x69, 0xA7], .orAHlByte 0xA7), ([0x31, 0x6B], .orAHlB), ([0x31, 0x6A], .orAHlC),
     ([0x7D, 0xA7], .xorAImm 0xA7), ([0xF8, 0x34, 0xA7], .xorSaddrImm 0x34 0xA7), ([0x61, 0x7B], .xorAR .b),
     ([0x61, 0x73], .xorRA .b)] = true := by decide

theorem test_decode_logic_cmp_2 : decodesAll
    [([0x7E, 0x34], .xorASaddr 0x34), ([0x78, 0x56, 0xFE], .xorAAddr16 0xFE56), ([0x7F], .xorAHl),
     ([0x79, 0xA7], .xorAHlByte 0xA7), ([0x31, 0x7B], .xorAHlB), ([0x31, 0x7A], .xorAHlC),
     ([0x4D, 0xA7], .cmpAImm 0xA7), ([0xC8, 0x34, 0xA7], .cmpSaddrImm 0x34 0xA7), ([0x61, 0x4B], .cmpAR .b),
     ([0x61, 0x43], .cmpRA .b), ([0x4E, 0x34], .cmpASaddr 0x34), ([0x48, 0x56, 0xFE], .cmpAAddr16 0xFE56),
     ([0x4F], .cmpAHl), ([0x49, 0xA7], .cmpAHlByte 0xA7), ([0x31, 0x4B], .cmpAHlB), ([0x31, 0x4A], .cmpAHlC)]
    = true := by decide

theorem test_decode_word_count : decodesAll
    [([0xCA, 0x56, 0xFE], .addwAxImm 0xFE56), ([0xDA, 0x56, 0xFE], .subwAxImm 0xFE56),
     ([0xEA, 0x56, 0xFE], .cmpwAxImm 0xFE56), ([0x31, 0x88], .mulu), ([0x31, 0x82], .divuw), ([0x43], .incR .b),
     ([0x81, 0x34], .incSaddr 0x34), ([0x53], .decR .b), ([0x91, 0x34], .decSaddr 0x34), ([0x84], .incwRp .de),
     ([0x94], .decwRp .de)] = true := by decide

theorem test_decode_rotate_adjust : decodesAll
    [([0x24], .rorA), ([0x26], .rolA), ([0x25], .rorcA), ([0x27], .rolcA), ([0x31, 0x90], .ror4Hl),
     ([0x31, 0x80], .rol4Hl), ([0x61, 0x80], .adjba), ([0x61, 0x90], .adjbs)] = true := by decide

theorem test_decode_bit_carry : decodesAll
    [([0x71, 0x54, 0x34], .mov1CySaddr 0x34 5), ([0x71, 0x5C, 0x22], .mov1CySfr 0x22 5),
     ([0x61, 0xDC], .mov1CyA 5), ([0x71, 0x54, 0x1E], .mov1CyPsw 5), ([0x71, 0xD4], .mov1CyHl 5),
     ([0x71, 0x55, 0x34], .and1CySaddr 0x34 5), ([0x71, 0x5D, 0x22], .and1CySfr 0x22 5),
     ([0x61, 0xDD], .and1CyA 5), ([0x71, 0x55, 0x1E], .and1CyPsw 5), ([0x71, 0xD5], .and1CyHl 5),
     ([0x71, 0x56, 0x34], .or1CySaddr 0x34 5), ([0x71, 0x5E, 0x22], .or1CySfr 0x22 5), ([0x61, 0xDE], .or1CyA 5),
     ([0x71, 0x56, 0x1E], .or1CyPsw 5), ([0x71, 0xD6], .or1CyHl 5), ([0x71, 0x57, 0x34], .xor1CySaddr 0x34 5),
     ([0x71, 0x5F, 0x22], .xor1CySfr 0x22 5), ([0x61, 0xDF], .xor1CyA 5), ([0x71, 0x57, 0x1E], .xor1CyPsw 5),
     ([0x71, 0xD7], .xor1CyHl 5), ([0x20], .set1Cy), ([0x21], .clr1Cy), ([0x01], .not1Cy)] = true := by decide

theorem test_decode_bit_write : decodesAll
    [([0x71, 0x51, 0x34], .mov1SaddrCy 0x34 5), ([0x71, 0x59, 0x22], .mov1SfrCy 0x22 5),
     ([0x61, 0xD9], .mov1ACy 5), ([0x71, 0x51, 0x1E], .mov1PswCy 5), ([0x71, 0xD1], .mov1HlCy 5),
     ([0x5A, 0x34], .set1Saddr 0x34 5), ([0x71, 0x5A, 0x22], .set1Sfr 0x22 5), ([0x61, 0xDA], .set1A 5),
     ([0x5A, 0x1E], .set1Psw 5), ([0x71, 0xD2], .set1Hl 5), ([0x5B, 0x34], .clr1Saddr 0x34 5),
     ([0x71, 0x5B, 0x22], .clr1Sfr 0x22 5), ([0x61, 0xDB], .clr1A 5), ([0x5B, 0x1E], .clr1Psw 5),
     ([0x71, 0xD3], .clr1Hl 5)] = true := by decide

theorem test_decode_call_stack : decodesAll
    [([0x9A, 0x56, 0xFE], .call 0xFE56), ([0x5C, 0xC9], .callf 5 0xC9), ([0xEB], .callt 21), ([0xBF], .brk),
     ([0xAF], .ret), ([0x8F], .reti), ([0x9F], .retb), ([0x22], .pushPsw), ([0xB5], .pushRp .de),
     ([0x23], .popPsw), ([0xB4], .popRp .de), ([0xEE, 0x1C, 0x56, 0xFE], .movwSpImm 0xFE56),
     ([0x99, 0x1C], .movwSpAx), ([0x89, 0x1C], .movwAxSp)] = true := by decide

theorem test_decode_branch_1 : decodesAll
    [([0x9B, 0x56, 0xFE], .brAddr16 0xFE56), ([0xFA, 0xF3], .brRel 0xF3), ([0x31, 0x98], .brAx),
     ([0x8D, 0xF3], .bcRel 0xF3), ([0x9D, 0xF3], .bncRel 0xF3), ([0xAD, 0xF3], .bzRel 0xF3),
     ([0xBD, 0xF3], .bnzRel 0xF3), ([0xDC, 0x34, 0xF3], .btSaddr 0x34 5 0xF3),
     ([0x31, 0x56, 0x22, 0xF3], .btSfr 0x22 5 0xF3), ([0x31, 0x5E, 0xF3], .btA 5 0xF3),
     ([0xDC, 0x1E, 0xF3], .btPsw 5 0xF3), ([0x31, 0xD6, 0xF3], .btHl 5 0xF3),
     ([0x31, 0x53, 0x34, 0xF3], .bfSaddr 0x34 5 0xF3), ([0x31, 0x57, 0x22, 0xF3], .bfSfr 0x22 5 0xF3),
     ([0x31, 0x5F, 0xF3], .bfA 5 0xF3), ([0x31, 0x53, 0x1E, 0xF3], .bfPsw 5 0xF3),
     ([0x31, 0xD7, 0xF3], .bfHl 5 0xF3), ([0x31, 0x51, 0x34, 0xF3], .btclrSaddr 0x34 5 0xF3),
     ([0x31, 0x55, 0x22, 0xF3], .btclrSfr 0x22 5 0xF3), ([0x31, 0x5D, 0xF3], .btclrA 5 0xF3),
     ([0x31, 0x51, 0x1E, 0xF3], .btclrPsw 5 0xF3), ([0x31, 0xD5, 0xF3], .btclrHl 5 0xF3),
     ([0x8B, 0xF3], .dbnzB 0xF3), ([0x8A, 0xF3], .dbnzC 0xF3)] = true := by decide

theorem test_decode_branch_2 : decodesAll
    [([0x04, 0x34, 0xF3], .dbnzSaddr 0x34 0xF3)] = true := by decide

theorem test_decode_control : decodesAll
    [([0x61, 0xF0], .sel 2), ([0x00], .nop), ([0x7A, 0x1E], .ei), ([0x7B, 0x1E], .di), ([0x71, 0x10], .halt),
     ([0x71, 0x00], .stop)] = true := by decide

/-- The worked examples of R163 to R169, R171 and R179. -/
theorem test_decode_examples : decodesAll
    [([0x62], .movAR .c), ([0x84], .incwRp .de), ([0x8E, 0x00, 0xFE], .movAAddr16 0xFE00),
     ([0xF2, 0x30], .movSaddrA 0x30), ([0xF6, 0x20], .movSfrA 0x20), ([0xAE, 0x10], .movAHlByte 0x10),
     ([0x4C, 0x34], .callf 4 0x34), ([0xC1], .callt 0), ([0xFF], .callt 31), ([0x7A, 0x1E], .ei),
     ([0x7B, 0x1E], .di), ([0x0A, 0x20], .set1Saddr 0x20 0), ([0xEE, 0x1C, 0xE0, 0xFE], .movwSpImm 0xFEE0)] = true := by
  decide

theorem test_decode_unassigned : refusesAll [[0x06], [0xC0], [0xD0], [0xE0], [0x61, 0x98], [0x31, 0x00], [0x71, 0x20]]
    .unassigned = true := by decide

theorem test_decode_odd : refusesAll [[0x89, 0x21], [0x02, 0x01, 0xFE], [0xFE, 0x11, 0, 0]] .oddOperand = true := by
  decide

theorem test_decode_truncated : refusesAll [[], [0x8E, 0x00], [0x31], [0x71, 0x0B], [0xEE, 0x20, 0x34]]
    .truncated = true := by decide

/-- The opcode table's numbering of bits, its first byte the most significant: NOP, and MOV A,!addr16. -/
theorem test_decode_table_word : decodeTableWord 8 0x00 = some .nop ∧ decodeTableWord 24 0x8E5634 = some (.movAAddr16 0x3456) := by
  decide

/-! ### 8-bit data transfer: the examples of R201 to R214 -/

theorem test_mov_imm : gives (exec (.movRImm .a 0x5A) (cpu 0x02 [])) (fun t => t.reg .a = 0x5A && t.psw = 0x02)
    = true := by
  decide

theorem test_mov_bank : gives (exec (.movRImm .a 0x5A) (cpu 0x2A [])) (fun t => t.mem.get 0xFEE1 = 0x5A) = true := by
  decide

theorem test_mov_saddr : gives (exec (.movSaddrImm 0x20 0x01) (cpu 0x02 [])) (fun t => t.mem.get 0xFE20 = 0x01)
    = true := by
  decide

theorem test_mov_sfr : gives (exec (.movSfrImm 0x21 0xF0) (cpu 0x02 [])) (fun t => t.dev.rd .PM1 = 0xF0) = true := by
  decide

theorem test_mov_lcd : gives (exec (.movAddr16A 0xFA40) (cpu 0x02 [(0xFEF9, 0x9C)])) (fun t => t.dev.ram.get 0xFA40 = 0x0C)
    = true := by decide

theorem test_mov_psw : gives (exec (.movPswImm 0x86) (cpu 0x02 [])) (fun t => t.psw = 0x82 && t.hold)
    = true := by decide

theorem test_mov_de : gives (exec .movADe (cpu 0x02 [(0xFEFC, 0x40), (0xFEFD, 0xFE), (0xFE40, 0x77)]))
    (fun t => t.reg .a = 0x77) = true := by decide

theorem test_mov_hl_wraps : gives (exec (.movAHlByte 0x20) (cpu 0x02 [(0xFEFE, 0xF0), (0xFEFF, 0xFF), (0x0010, 0x5C)]))
    (fun t => t.reg .a = 0x5C) = true := by decide

theorem test_mov_hl_self : gives (exec .movHlA (cpu 0x02 [(0xFEF9, 0x12), (0xFEFE, 0xFE), (0xFEFF, 0xFE)]))
    (fun t => t.pair .hl = 0xFE12) = true := by decide

theorem test_mov_flash : gives (exec (.movAddr16A 0x2000) (cpu 0x02 [(0xFEF9, 0x12)])) (fun t => t.mem.get 0x2000 = 0xFF)
    = true := by decide

theorem test_xch : gives (exec (.xchAR .x) (cpu 0x02 [(0xFEF8, 0x34), (0xFEF9, 0x12)]))
    (fun t => t.reg .a = 0x34 && t.reg .x = 0x12) = true := by decide

theorem test_xch_saddr : gives (exec (.xchASaddr 0x20) (cpu 0x02 [(0xFEF9, 0x01), (0xFE20, 0xFF)]))
    (fun t => t.reg .a = 0xFF && t.mem.get 0xFE20 = 0x01) = true := by decide

/-! ### 16-bit data transfer: the examples of R221 to R227 -/

theorem test_movw_imm : gives (exec (.movwRpImm .hl 0xFE20) (cpu 0x02 []))
    (fun t => t.reg .l = 0x20 && t.reg .h = 0xFE) = true := by decide

theorem test_movw_saddrp : gives (exec (.movwSaddrpImm 0x20 0x1234) (cpu 0x02 []))
    (fun t => t.mem.get 0xFE20 = 0x34 && t.mem.get 0xFE21 = 0x12) = true := by decide

theorem test_movw_load : gives (exec (.movwAxSaddrp 0x20) (cpu 0x02 [(0xFE20, 0x34), (0xFE21, 0x12)]))
    (fun t => t.reg .x = 0x34 && t.reg .a = 0x12) = true := by decide

theorem test_movw_odd : (match exec (.movwAxAddr16 0xFE21) (cpu 0x02 []) with
    | .refused r => decide (r = .oddOperand)
    | _ => false) = true := by decide

theorem test_xchw : gives (exec (.xchwAxRp .hl) (cpu 0x02 [(0xFEF8, 0x34), (0xFEF9, 0x12), (0xFEFE, 0xCD), (0xFEFF, 0xAB)]))
    (fun t => t.pair .ax = 0xABCD && t.pair .hl = 0x1234) = true := by decide

/-! ### 8-bit operations: the examples and corner cases of R232 to R239 -/

theorem test_add : gives (exec (.addAImm 0xC6) (cpu 0x02 [(0xFEF9, 0x3A)])) (fun t => t.reg .a = 0x00 && t.psw = 0x53)
    = true := by decide

theorem test_add_a_a : gives (exec (.addRA .a) (cpu 0x03 [(0xFEF9, 0x81)])) (fun t => t.reg .a = 0x02 && t.psw = 0x03)
    = true := by decide

theorem test_addc : gives (exec (.addcAImm 0x0F) (cpu 0x03 [(0xFEF9, 0x10)])) (fun t => t.reg .a = 0x20 && t.psw = 0x12)
    = true := by decide

theorem test_addc_full : gives (exec (.addcAImm 0xFF) (cpu 0x03 [(0xFEF9, 0xFF)])) (fun t => t.reg .a = 0xFF && t.psw = 0x13)
    = true := by decide

theorem test_sub : gives (exec (.subAImm 0x01) (cpu 0x03 [(0xFEF9, 0x50)])) (fun t => t.reg .a = 0x4F && t.psw = 0x12)
    = true := by decide

theorem test_subc : gives (exec (.subcAImm 0x10) (cpu 0x03 [(0xFEF9, 0x20)])) (fun t => t.reg .a = 0x0F && t.psw = 0x12)
    = true := by decide

theorem test_subc_corner : gives (exec (.subcAImm 0xFF) (cpu 0x03 [])) (fun t => t.reg .a = 0x00 && t.psw = 0x53)
    = true := by decide

theorem test_and : gives (exec (.andAImm 0x3C) (cpu 0x13 [(0xFEF9, 0xF0)])) (fun t => t.reg .a = 0x30 && t.psw = 0x13)
    = true := by decide

theorem test_or : gives (exec (.orSaddrImm 0x20 0x80) (cpu 0x42 [(0xFE20, 0x01)]))
    (fun t => t.mem.get 0xFE20 = 0x81 && t.psw = 0x02) = true := by decide

theorem test_xor_a_a : gives (exec (.xorRA .a) (cpu 0x02 [(0xFEF9, 0x55)])) (fun t => t.reg .a = 0x00 && t.psw = 0x42)
    = true := by decide

theorem test_cmp : gives (exec (.cmpAImm 0x20) (cpu 0x02 [(0xFEF9, 0x10)])) (fun t => t.reg .a = 0x10 && t.psw = 0x03)
    = true := by decide

/-! ### 16-bit operations, multiplication, division, counting: the examples of R250 to R258 -/

theorem test_addw : gives (exec (.addwAxImm 0xEDCC) (cpu 0x02 [(0xFEF8, 0x34), (0xFEF9, 0x12)]))
    (fun t => t.mem.get 0xFEF8 = 0x00 && t.mem.get 0xFEF9 = 0x00) = true := by decide

theorem test_subw : gives (exec (.subwAxImm 0x0001) (cpu 0x02 []))
    (fun t => t.mem.get 0xFEF8 = 0xFF && t.mem.get 0xFEF9 = 0xFF) = true := by decide

theorem test_cmpw : gives (exec (.cmpwAxImm 0x0100) (cpu 0x02 [(0xFEF8, 0xFF)])) (fun t => t.mem.get 0xFEF8 = 0xFF)
    = true := by decide

theorem test_mulu : gives (exec .mulu (cpu 0x02 [(0xFEF8, 0xFF), (0xFEF9, 0xFF)])) (fun t => t.pair .ax = 0xFE01)
    = true := by decide

theorem test_divuw : gives (exec .divuw (cpu 0x02 [(0xFEF8, 0x02), (0xFEF9, 0x01), (0xFEFA, 0x10)]))
    (fun t => t.pair .ax = 0x0010 && t.reg .c = 0x02) = true := by decide

theorem test_divuw_zero : gives (exec .divuw (cpu 0x02 [(0xFEF8, 0x34), (0xFEF9, 0x12)]))
    (fun t => t.pair .ax = 0xFFFF && t.reg .c = 0x34) = true := by decide

theorem test_inc : gives (exec (.incR .b) (cpu 0x03 [(0xFEFB, 0x0F)])) (fun t => t.reg .b = 0x10 && t.psw = 0x13)
    = true := by decide

theorem test_dec_saddr : gives (exec (.decSaddr 0x20) (cpu 0x02 [(0xFE20, 0x10)]))
    (fun t => t.mem.get 0xFE20 = 0x0F && t.psw = 0x12) = true := by decide

theorem test_incw : gives (exec (.incwRp .hl) (cpu 0x02 [(0xFEFE, 0xFF), (0xFEFF, 0xFF)]))
    (fun t => t.pair .hl = 0x0000 && t.psw = 0x02) = true := by decide

theorem test_decw : gives (exec (.decwRp .de) (cpu 0x02 [(0xFEFC, 0x00), (0xFEFD, 0x01)])) (fun t => t.pair .de = 0x00FF)
    = true := by decide

/-! ### Rotates and adjustment: the examples of R270 to R277 -/

theorem test_ror : gives (exec .rorA (cpu 0x02 [(0xFEF9, 0x01)])) (fun t => t.reg .a = 0x80 && t.psw = 0x03)
    = true := by
  decide

theorem test_rol : gives (exec .rolA (cpu 0x02 [(0xFEF9, 0x81)])) (fun t => t.reg .a = 0x03 && t.psw = 0x03)
    = true := by
  decide

theorem test_rorc : gives (exec .rorcA (cpu 0x03 [(0xFEF9, 0x02)])) (fun t => t.reg .a = 0x81 && t.psw = 0x02)
    = true := by
  decide

theorem test_rolc : gives (exec .rolcA (cpu 0x02 [(0xFEF9, 0x80)])) (fun t => t.reg .a = 0x00 && t.psw = 0x03)
    = true := by
  decide

theorem test_ror4 : gives (exec .ror4Hl (cpu 0x02 [(0xFEF9, 0x12), (0xFEFE, 0x80), (0xFEFF, 0xFE), (0xFE80, 0x34)]))
    (fun t => t.reg .a = 0x14 && t.mem.get 0xFE80 = 0x23) = true := by decide

theorem test_rol4 : gives (exec .rol4Hl (cpu 0x02 [(0xFEF9, 0x12), (0xFEFE, 0x80), (0xFEFF, 0xFE), (0xFE80, 0x34)]))
    (fun t => t.reg .a = 0x13 && t.mem.get 0xFE80 = 0x42) = true := by decide

/-- HL addresses A itself (R21): A is read again after the write, in the order of R275. -/
theorem test_rol4_of_a : gives (exec .rol4Hl (cpu 0x02 [(0xFEF9, 0x12), (0xFEFE, 0xF9), (0xFEFF, 0xFE)]))
    (fun t => t.reg .a = 0x21) = true := by decide

theorem test_adjba : gives (exec .adjba (cpu 0x12 [(0xFEF9, 0x41)])) (fun t => t.reg .a = 0x47 && t.psw = 0x02)
    = true := by
  decide

theorem test_adjbs : gives (exec .adjbs (cpu 0x12 [(0xFEF9, 0x19)])) (fun t => t.reg .a = 0x13 && t.psw = 0x02)
    = true := by
  decide

/-! ### Bits: the examples of R286 to R295 -/

theorem test_mov1_cy_a : gives (exec (.mov1CyA 3) (cpu 0x02 [(0xFEF9, 0x08)])) (fun t => t.psw = 0x03)
    = true := by decide

theorem test_mov1_saddr : gives (exec (.mov1SaddrCy 0x20 7) (cpu 0x03 [])) (fun t => t.mem.get 0xFE20 = 0x80)
    = true := by
  decide

theorem test_and1 : gives (exec (.and1CyA 0) (cpu 0x03 [])) (fun t => t.psw = 0x02) = true := by decide

theorem test_or1_hl : gives (exec (.or1CyHl 4) (cpu 0x02 [(0xFEFE, 0x80), (0xFEFF, 0xFE), (0xFE80, 0x10)]))
    (fun t => t.psw = 0x03) = true := by decide

theorem test_xor1_psw : gives (exec (.xor1CyPsw 1) (cpu 0x03 [])) (fun t => t.psw = 0x02 && t.hold) = true := by decide

theorem test_set1_saddr : gives (exec (.set1Saddr 0x20 0) (cpu 0x02 [])) (fun t => t.mem.get 0xFE20 = 0x01) = true := by
  decide

theorem test_set1_psw_bit2 : gives (exec (.set1Psw 2) (cpu 0x02 [])) (fun t => t.psw = 0x02 && t.hold)
    = true := by decide

theorem test_clr1_if : gives (exec (.clr1Sfr 0xE0 0)
    { cpu 0x02 [] with dev := State.reset.dev.wr .IF0L 0x81 }) (fun t => t.dev.rd .IF0L = 0x80 && t.hold)
    = true := by decide

theorem test_not1 : gives (exec .not1Cy (cpu 0x02 [])) (fun t => t.psw = 0x03) = true := by decide

/-! ### Calls, returns, the stack: the examples of R360 to R377 -/

theorem test_call : gives (exec (.call 0x2345) { cpu 0x02 [] with pc := 0x1003 }) (fun t => t.mem.get 0xFEDF = 0x10 &&
    t.mem.get 0xFEDE = 0x03 && t.sp = 0xFEDE && t.pc = 0x2345) = true := by decide

theorem test_callf : gives (exec (.callf 4 0x34) (cpu 0x02 [])) (fun t => t.pc = 0x0C34) = true := by decide

theorem test_callt : gives (exec (.callt 0) (cpu 0x02 [(0x0040, 0x00), (0x0041, 0x20)])) (fun t => t.pc = 0x2000)
    = true := by
  decide

theorem test_brk : gives (exec .brk { cpu 0x82 [(0x003E, 0x00), (0x003F, 0x30)] with pc := 0x1235 })
    (fun t => t.mem.get 0xFEDF = 0x82 && t.mem.get 0xFEDE = 0x12 && t.mem.get 0xFEDD = 0x35 && t.sp = 0xFEDD &&
      t.pc = 0x3000 && t.psw = 0x02 && !t.hold) = true := by decide

theorem test_ret : gives (exec .ret { cpu 0x02 [(0xFEDE, 0x03), (0xFEDF, 0x10)] with sp := 0xFEDE })
    (fun t => t.pc = 0x1003 && t.sp = 0xFEE0) = true := by decide

theorem test_reti : gives (exec .reti { cpu 0x00 [(0xFEDD, 0x35), (0xFEDE, 0x12), (0xFEDF, 0x82)] with sp := 0xFEDD })
    (fun t => t.pc = 0x1235 && t.psw = 0x82 && t.sp = 0xFEE0 && t.hold) = true := by decide

theorem test_retb : gives (exec .retb { cpu 0x00 [(0xFEDD, 0x35), (0xFEDE, 0x12), (0xFEDF, 0x82)] with sp := 0xFEDD })
    (fun t => t.pc = 0x1235 && t.psw = 0x82 && t.sp = 0xFEE0 && t.hold) = true := by decide

theorem test_push_rp : gives (exec (.pushRp .de) (cpu 0x02 [(0xFEFC, 0x34), (0xFEFD, 0x12)]))
    (fun t => t.mem.get 0xFEDF = 0x12 && t.mem.get 0xFEDE = 0x34 && t.sp = 0xFEDE) = true := by decide

theorem test_pop_psw : gives (exec .popPsw { cpu 0x02 [(0xFEDF, 0x43)] with sp := 0xFEDF })
    (fun t => t.psw = 0x43 && t.sp = 0xFEE0 && t.hold) = true := by decide

theorem test_pop_rp : gives (exec (.popRp .bc) { cpu 0x02 [(0xFEDE, 0x34), (0xFEDF, 0x12)] with sp := 0xFEDE })
    (fun t => t.pair .bc = 0x1234 && t.sp = 0xFEE0) = true := by decide

theorem test_movw_ax_sp : gives (exec .movwAxSp { cpu 0x02 [] with sp := 0xFEDE })
    (fun t => t.reg .a = 0xFE && t.reg .x = 0xDE) = true := by decide

/-! ### Branches: the examples of R381 to R390 (PC is the address after the instruction) -/

theorem test_br_forward : gives (exec (.brRel 0x10) { cpu 0x02 [] with pc := 0x0202 }) (fun t => t.pc = 0x0212)
    = true := by
  decide

theorem test_br_back : gives (exec (.brRel 0xF0) { cpu 0x02 [] with pc := 0x0202 }) (fun t => t.pc = 0x01F2)
    = true := by
  decide

theorem test_bc : gives (exec (.bcRel 0x04) { cpu 0x03 [] with pc := 0x0202 }) (fun t => t.pc = 0x0206)
    = true := by decide

theorem test_bc_not : gives (exec (.bcRel 0x04) { cpu 0x02 [] with pc := 0x0202 }) (fun t => t.pc = 0x0202) = true := by
  decide

theorem test_bt : gives (exec (.btSaddr 0x20 7 0x0D) { cpu 0x02 [(0xFE20, 0x80)] with pc := 0x0403 })
    (fun t => t.pc = 0x0410) = true := by decide

theorem test_bf : gives (exec (.bfA 0 0xFD) { cpu 0x02 [] with pc := 0x0403 }) (fun t => t.pc = 0x0400)
    = true := by decide

theorem test_btclr : gives (exec (.btclrSaddr 0x20 0 0x0C) { cpu 0x02 [(0xFE20, 0x01)] with pc := 0x0504 })
    (fun t => t.mem.get 0xFE20 = 0x00 && t.pc = 0x0510) = true := by decide

theorem test_dbnz : gives (exec (.dbnzB 0xFD) { cpu 0x02 [] with pc := 0x0603 })
    (fun t => t.reg .b = 0xFF && t.pc = 0x0600) = true := by decide

theorem test_dbnz_end : gives (exec (.dbnzSaddr 0x20 0xFD) { cpu 0x02 [(0xFE20, 0x01)] with pc := 0x0603 })
    (fun t => t.mem.get 0xFE20 = 0x00 && t.pc = 0x0603) = true := by decide

/-! ### CPU control and standby: the examples of R392 to R397 -/

theorem test_sel : gives (exec (.sel 3) (cpu 0x02 [])) (fun t => t.psw = 0x2A && !t.hold) = true := by decide

theorem test_ei : gives (exec .ei (cpu 0x02 [])) (fun t => t.psw = 0x82 && t.hold) = true := by decide

theorem test_di : gives (exec .di (cpu 0x82 [])) (fun t => t.psw = 0x02 && t.hold) = true := by decide

theorem test_halt : gives (exec .halt (cpu 0x02 [])) (fun t => t.dev.mode = .halt && t.pc = 0x1000) = true := by decide

theorem test_stop : gives (exec .stop (cpu 0x02 [])) (fun t => t.dev.mode = .stop && t.dev.rhRuns = false) = true := by
  decide

/-! ### Whole steps -/

set_option maxRecDepth 20000 in
/-- A step of the instruction placed by `withFetchWord`, here DEC A with A = 00H: PC past it, two clocks counted. -/
theorem test_step_dec : gives (step (State.reset.withFetchWord 8 0x51))
    (fun t => t.reg .a = 0xFF && t.pc = 0x0101 && t.cpuClocks = 2 && t.psw = 0x12) = true := by decide

set_option maxRecDepth 20000 in
/-- An unmasked request at the boundary with IE = 1: INTTM50, number 13, is accepted (R401, R420). -/
theorem test_step_interrupt : gives
    (step { State.reset.withFetchWord 8 0x00 with
      psw := 0x82, dev := (State.reset.dev.wr .IF0H 0x20).wr .MK0H 0xDF })
    (fun t => t.psw = 0x02 && t.sp = 0xFEDD && t.dev.rd .IF0H = 0x00 && t.mem.get 0xFEDE = 0x01 &&
      t.mem.get 0xFEDD = 0x01) = true := by decide

/-- The watchdog resets a chip that fetches where no instructions are held (R122, R626, R871). -/
theorem test_step_reset : gives (step State.reset) (fun t => t.dev.rd .RESF = 0x10 && t.psw = 0x02) = true := by decide

/-! ### Peripherals -/

/-- The next CR51 written in carrier generator mode takes effect (R588); out of that mode the rewrite leaves timer 51 free (R561). -/
theorem test_cr51_carrier :
    let d := State.reset.dev.wr .TMC51 0x80
    gives ((d.wr .TMHMD1 0x84).writeCr5 .n1 5) (fun e => e.rd .CR51 = 5 && !e.isWild .tm51) = true ∧
      gives (d.writeCr5 .n1 5) (fun e => e.rd .CR51 = 5 && e.isWild .tm51) = true := by decide

/-- A real-time counter with free behaviour gives no stated level at RTCDIV, and its clock raises nothing (R604, U11). -/
theorem test_rtc_free :
    let d := ((State.reset.dev.wr .RTCC0 0x80).wr .RTCC2 0xC0).makeWild .rtc
    d.rtcdiv = .unstated ∧ d.rtcClock = d := by decide

/-- A read of the buffer RAM in an interval of an automatic transfer may extend the interval (R768). -/
theorem test_interval_extended :
    let d := State.reset.dev.wr .CSIMA0 0xC0
    let e := { d with csia0 := { d.csia0 with gap := 4, inGap := true } }
    gives ({ State.reset with dev := e }.load .byte 0xFA00) (fun p => p.2.dev.draws == e.draws + 1) = true ∧
      gives ({ State.reset with dev := d }.load .byte 0xFA00) (fun p => p.2.dev.draws == d.draws) = true ∧
      e.csiaContend.csia0 = { e.csia0 with gap := 4 + (Config.freeWord e.draws).toNat } :=
  ⟨by decide, by decide, rfl⟩

/-! ### States that meet the hypotheses of the statements

`demo` has HL = FE80H, DE = FE40H, B = 01H, C = 02H, A = 12H, X = 34H, SP = FEE0H, and the CSIA0 buffer RAM open. -/

/-- The state that most of the witnesses use. -/
def demo : State :=
  { cpu 0x02 [(0xFEF8, 0x34), (0xFEF9, 0x12), (0xFEFA, 0x02), (0xFEFB, 0x01), (0xFEFC, 0x40), (0xFEFD, 0xFE),
      (0xFEFE, 0x80), (0xFEFF, 0xFE), (0xFE20, 0x81), (0xFE80, 0x81)] with
    dev := State.reset.dev.wr .CSIMA0 0x80 }

/-- `demo` of a product with 16 KB of flash and 768 bytes of RAM, whose IMS still has its reset value. -/
def small : State := { demo with dev := { demo.dev with chip := { demo.dev.chip with product := ⟨.lc040, .y1⟩ } } }

/-- `demo` with the watchdog disabled by option byte 0080H. -/
def calm : State := { demo with dev := { demo.dev with chip := { demo.dev.chip with option80 := 0x00 } } }

/-- Addresses of RAM. -/
theorem ram_all {s : State} {es : List Word} (h : (es.all fun ea => decide (s.dev.area ea.toNat = .ram)) = true) :
    ∀ ea ∈ es, s.dev.area ea.toNat = .ram := fun ea he => of_decide_eq_true (List.all_eq_true.mp h ea he)

theorem readable_ram {s : State} {u : AccessUnit} {ea : Word} (h : s.dev.area ea.toNat = .ram) : Readable s u ea := by
  simp [Readable, h]

theorem writable_ram {s : State} {u : AccessUnit} {ea : Word} {v : Byte} (h : s.dev.area ea.toNat = .ram) :
    Writable s u ea v := by
  simp [Writable, h]

/-- What an outcome gives, as a value. -/
theorem gives_next {α : Type} {x : Res α} {p : α → Bool} (h : gives x p = true) : ∃ a, x = .next a ∧ p a = true := by
  unfold gives at h
  split at h
  · exact ⟨_, rfl, h⟩
  · cases h

/-- An outcome that gives something completes. -/
theorem completes {α : Type} {x : Res α} (h : gives x (fun _ => true) = true) : Completes x :=
  let ⟨a, e, _⟩ := gives_next h
  ⟨a, e⟩

theorem loads_ram {s : State} {u : AccessUnit} {ea : Word} (h : s.dev.area ea.toNat = .ram) :
    ∃ v, s.load u ea = .next (v, s) := ⟨_, load_ram h⟩

theorem readable_sfr {s : State} {u : AccessUnit} {ea : Word} (h : s.dev.area ea.toNat = .sfr)
    (c : Completes (s.dev.sfrRead u ea.toNat)) : Readable s u ea := by
  simp [Readable, h, c]

theorem writable_sfr {s : State} {u : AccessUnit} {ea : Word} {v : Byte} (h : s.dev.area ea.toNat = .sfr)
    (c : Completes (s.dev.sfrWrite u ea.toNat v)) : Writable s u ea v := by
  simp [Writable, h, c]

theorem test_meets_DecodeEncode : (Instr.movSaddrA 0x1F).wf = true ∧ (Instr.movwSaddrpAx 0x1A).wf = true := by decide

/-- The bytes at PC are those of `MOV A,!3456H` and one more. -/
theorem test_meets_StepRunsInstruction :
    let s := State.reset.withFetchWord 24 0x8E5634
    CpuTurn s s ∧ CpuTurn { s with agenda := [.cpu [.prs]] } { s with agenda := [], between := [.prs] } ∧ s.dev.mode = .run ∧ s.dev.cpuClockRuns = true ∧ (Instr.movAAddr16 0x3456).wf = true ∧
      (match decode (s.codeBytes s.pc 4) with
        | .ok (i, rest) => decide (i = .movAAddr16 0x3456) && decide (rest = [0x00])
        | .error _ => false) = true :=
  ⟨.inl ⟨rfl, rfl⟩, .inr ⟨_, _, rfl, rfl⟩, by decide⟩

theorem test_meets_StepRunsEncoding :
    let s := State.reset.withFetchWord 24 0x8E5634
    CpuTurn s s ∧ s.dev.mode = .run ∧ s.dev.cpuClockRuns = true ∧ (Instr.movAAddr16 0x3456).wf = true ∧
      s.codeBytes s.pc 4 = encode (.movAAddr16 0x3456) ++ [0x00] :=
  ⟨.inl ⟨rfl, rfl⟩, by decide⟩

theorem test_meets_MemoryLaws : ((Memory.mk 0 []).put 0xFE20 1).wf = true ∧ demo.mem.wf = true ∧
    ((Memory.mk 0 []).put 0xFE20 1).put 0xFE10 2 = ((Memory.mk 0 []).put 0xFE10 2).put 0xFE20 1 := by decide

/-- Readable and writable: both ends of RAM, and one address of every other area. -/
theorem test_meets_MemAccessCompletes :
    (Readable demo .byte 0xFB00 ∧ Writable demo .bit 0xFEFF 0x01) ∧
    (Readable demo .byte 0x0000 ∧ Writable demo .byte 0xEFFF 0x01) ∧
    (Readable demo .byte 0xFA40 ∧ Writable demo .byte 0xFA5F 0x01) ∧
    (Readable demo .byte 0xFA00 ∧ Writable demo .byte 0xFA1F 0x01) ∧
    (Readable demo .byte 0xFF1C ∧ Writable demo .byte 0xFF1D 0x01) ∧
    (Readable demo .byte 0xFF1E ∧ Writable demo .byte 0xFF1E 0x01) ∧
    (Readable demo .byte 0xFF01 ∧ Writable demo .byte 0xFF01 0x01) ∧
    (Readable demo .byte 0xF900 ∧ Writable demo .byte 0xF9FF 0x01) := by
  refine ⟨⟨readable_ram (by decide), writable_ram (by decide)⟩, ⟨trivial, trivial⟩, ⟨trivial, trivial⟩,
    ⟨trivial, trivial⟩, ⟨trivial, trivial⟩, ⟨trivial, trivial⟩,
    ⟨readable_sfr (by decide) (completes (by decide)), writable_sfr (by decide) (completes (by decide))⟩, trivial, trivial⟩

/-- An odd address, both ends of RAM, a request and a mask word of the product, and the stopped timer. -/
theorem test_meets_WordAccess : (0xFE21#16).getLsbD 0 = true ∧ ((0xFEFE#16).getLsbD 0 = false ∧
    demo.dev.area 0xFEFE = .ram ∧ demo.dev.area 0xFEFF = .ram) ∧ demo.dev.area 0xFB00 = .ram ∧
    (0xFFFF#16 &&& ~~~join (flagMask demo.dev.series 1) (flagMask demo.dev.series 0)) = 0 ∧
    (0xE0FF#16 ||| join (flagMask demo.dev.series 3) (flagMask demo.dev.series 2)) = 0xFFFF ∧ demo.dev.tm00Mode = 0 := by
  decide

/-- The words of the spec's rule: MK0 is MK0L at FFE4H and MK0H at FFE5H (R48, R110). -/
theorem test_movw_mk0 : gives (exec (.movwSfrpImm 0xE4 0x12EF) (cpu 0x02 []))
    (fun t => t.dev.rd .MK0L = 0xEF && t.dev.rd .MK0H = 0x12 && t.hold) = true := by decide

/-- IMS at its reset value and at the smallest setting that leaves RAM. -/
theorem test_meets_RegisterArea : imsAllowed (demo.dev.rd .IMS) = true ∧ imsAllowed 0x02 = true := by decide

/-- Areas where nothing answers, and SFR addresses without a register, where the detection looks and where it does not. -/
theorem test_meets_IllegalAccess :
    (demo.dev.area 0xF900 = .closed ∧ demo.dev.wdton = true ∧ watchdogBlind 0xF900 = false) ∧
    (calm.dev.area 0xF900 = .closed ∧ calm.dev.wdton = false) ∧
    (small.dev.area 0x4000 = .closed ∧ watchdogBlind 0x4000 = false) ∧
    (small.dev.area 0xFB00 = .closed ∧ watchdogBlind 0xFB00 = true) ∧
    (demo.dev.area 0xFFD0 = .sfr ∧ demo.dev.regAt 0xFFD0 = none ∧ watchdogBlind 0xFFD0 = false) ∧
    (demo.dev.area 0xFF25 = .sfr ∧ demo.dev.regAt 0xFF25 = none ∧ watchdogBlind 0xFF25 = true) ∧
    (State.reset.dev.area 0xFA00 = .buffer ∧ State.reset.dev.area 0xFA1F = .buffer ∧ State.reset.dev.bit .CSIMA0 7 = false) := by
  decide

/-- Also for the operand addresses of `AluLoads`, `BitLoads`, `BitBranches`. -/
theorem test_meets_MovLoads : Readable demo .byte (saddrEA 0x20) ∧ Readable demo .byte (saddrEA 0x01) ∧
    Readable demo .byte (sfrEA 0x01) ∧ Readable demo .byte 0xFE20 ∧ Readable demo .byte demo.deEA ∧
    Readable demo .byte demo.hlEA ∧ Readable demo .byte (demo.hlByteEA 0x7F) ∧ Readable demo .byte demo.hlBEA ∧
    Readable demo .byte demo.hlCEA :=
  ⟨readable_ram (by decide), readable_sfr (by decide) (completes (by decide)), readable_sfr (by decide) (completes (by decide)),
    readable_ram (by decide), readable_ram (by decide), readable_ram (by decide), readable_ram (by decide),
    readable_ram (by decide), readable_ram (by decide)⟩

theorem test_meets_MovStores : Writable demo .byte (saddrEA 0x20) 0x5A ∧ Writable demo .byte (sfrEA 0x01) 0x5A ∧
    Writable demo .byte 0xFE20 (demo.reg .a) ∧ Writable demo .byte demo.deEA (demo.reg .a) ∧
    Writable demo .byte demo.hlEA (demo.reg .a) ∧ Writable demo .byte (demo.hlByteEA 0x7F) (demo.reg .a) ∧
    Writable demo .byte demo.hlBEA (demo.reg .a) ∧ Writable demo .byte demo.hlCEA (demo.reg .a) :=
  ⟨writable_ram (by decide), writable_sfr (by decide) (completes (by decide)), writable_ram (by decide), writable_ram (by decide),
    writable_ram (by decide), writable_ram (by decide), writable_ram (by decide), writable_ram (by decide)⟩

/-- No moves fall into the middle of an instruction of `demo`. -/
theorem demo_midway : demo.midway = demo := midway_nil rfl

/-- For every form: RAM, and a port register through SFR addressing. -/
theorem test_meets_XchMemory :
    (∀ ea ∈ [saddrEA 0x20, 0xFE20, demo.deEA, demo.hlEA, demo.hlByteEA 0x7F, demo.hlBEA, demo.hlCEA],
      ∃ v, demo.load .byte ea = .next (v, demo) ∧ Writable demo.midway .byte ea (demo.reg .a)) ∧
    gives (demo.load .byte (sfrEA 0x01))
      (fun p => gives (p.2.midway.store .byte (sfrEA 0x01) (demo.reg .a)) fun _ => true) = true := by
  refine ⟨?_, by decide⟩
  intro ea h
  have := ram_all (s := demo) (by decide) ea h
  exact ⟨_, load_ram this, demo_midway ▸ writable_ram this⟩

/-- Both clauses: RAM, and the 16-bit register TM00 (R224). -/
theorem test_meets_MovwLoads : ((saddrEA 0x20).getLsbD 0 = false ∧ demo.dev.area (saddrEA 0x20).toNat = .ram ∧
    demo.dev.area (saddrEA 0x20 + 1).toNat = .ram) ∧ gives (demo.loadWord (sfrEA 0x10)) (fun _ => true) = true := by
  decide

/-- Both clauses: RAM, and the 16-bit register MK0. -/
theorem test_meets_MovwStores : ((0xFEFE#16).getLsbD 0 = false ∧ demo.dev.area 0xFEFE = .ram ∧
    demo.dev.area (0xFEFE + 1) = .ram) ∧ gives (demo.storeWord (sfrEA 0xE4) 0xFFFF) (fun _ => true) = true := by decide

/-- The loads of `AluLoads` and `AluStores`, both clauses of the latter. -/
theorem test_meets_AluStores : (∃ v, demo.load .byte (saddrEA 0x20) = .next (v, demo) ∧
    Writable demo.midway .byte (saddrEA 0x20) (aluRun .add v 0x7F demo.cy).value) ∧ (AluOp.add ≠ .cmp) ∧
    AluOp.cmp = .cmp :=
  ⟨⟨_, load_ram (by decide), demo_midway ▸ writable_ram (by decide)⟩, by decide, rfl⟩

theorem test_meets_AluLoads : ∀ ea ∈ [saddrEA 0x20, 0xFE20, demo.hlEA, demo.hlByteEA 0x7F, demo.hlBEA, demo.hlCEA],
    ∃ v, demo.load .byte ea = .next (v, demo) := by
  exact fun ea h => loads_ram (ram_all (by decide) ea h)

/-- `MULU X` and `DIVUW C`, both clauses: a divisor that is not 0, and one that is. -/
theorem test_meets_MultiplyDivide : demo.reg .c ≠ 0 ∧ (cpu 0x02 []).reg .c = 0 := by decide

theorem test_meets_IncDecMemory : ∃ v, demo.load .byte (saddrEA 0x20) = .next (v, demo) ∧
    Writable demo.midway .byte (saddrEA 0x20) (v + 1) ∧ Writable demo.midway .byte (saddrEA 0x20) (v - 1) :=
  ⟨_, load_ram (by decide), demo_midway ▸ writable_ram (by decide), demo_midway ▸ writable_ram (by decide)⟩

theorem test_meets_DigitRotates : ∃ m, demo.load .byte demo.hlEA = .next (m, demo) ∧
    Writable demo.midway .byte demo.hlEA (BitVec.ofNat 8 ((demo.reg .a).toNat % 16 * 16 + m.toNat / 16)) ∧
    Writable demo.midway .byte demo.hlEA (BitVec.ofNat 8 (m.toNat % 16 * 16 + (demo.reg .a).toNat % 16)) :=
  ⟨_, load_ram (by decide), demo_midway ▸ writable_ram (by decide), demo_midway ▸ writable_ram (by decide)⟩

/-- The six rows of `ADJBA` and the four of `ADJBS`, each at a boundary of its digits. -/
theorem test_meets_DecimalAdjust :
    let row := fun psw a => let s := cpu psw [(0xFEF9, a)]; ((s.reg .a).toNat % 16, (s.reg .a).toNat / 16, s.ac, s.cy)
    row 0x02 0x99 = (9, 9, false, false) ∧ row 0x02 0xA9 = (9, 10, false, false) ∧ row 0x02 0x8A = (10, 8, false, false) ∧
    row 0x02 0x9A = (10, 9, false, false) ∧ row 0x12 0x9F = (15, 9, true, false) ∧ row 0x12 0xA0 = (0, 10, true, false) ∧
    row 0x03 0x00 = (0, 0, false, true) ∧ row 0x13 0x00 = (0, 0, true, true) := by decide

theorem test_meets_BitLoads : (∀ ea ∈ [saddrEA 0x20, demo.hlEA], ∃ v, demo.load .bit ea = .next (v, demo)) ∧
    gives (demo.load .bit (sfrEA 0x01)) (fun _ => true) = true := by
  refine ⟨?_, by decide⟩
  exact fun ea h => loads_ram (ram_all (by decide) ea h)

theorem test_meets_BitStores : (∀ ea ∈ [saddrEA 0x20, demo.hlEA],
    ∃ v, demo.load .bit ea = .next (v, demo) ∧
      Writable demo.midway .bit ea (setBit v 7 true ||| demo.raisedMidway .bit ea)) ∧
    gives (demo.load .bit (sfrEA 0x01)) (fun p => gives (p.2.midway.store .bit (sfrEA 0x01)
      (setBit p.1 0 false ||| p.2.raisedMidway .bit (sfrEA 0x01))) fun _ => true) = true ∧
    demo.between = [] ∧ { demo with between := [.prs] }.between = [.prs] := by
  refine ⟨?_, by decide, rfl, rfl⟩
  intro ea h
  have := ram_all (s := demo) (by decide) ea h
  exact ⟨_, load_ram this, demo_midway ▸ writable_ram this⟩

/-- The stack at the top and at the bottom of RAM: `Calls`, `SoftwareInterrupt`, `PushPop`. -/
theorem test_meets_StackBelow : StackBelow demo 0xFF00 3 ∧ StackBelow demo 0xFB03 3 ∧ StackBelow demo demo.sp 3 ∧
    StackBelow demo demo.sp 2 ∧ StackBelow demo demo.sp 1 := by
  simp only [StackBelow]
  decide

/-- `Returns`, `PushPop`. -/
theorem test_meets_StackAbove : StackAbove demo 0xFEFD 3 ∧ StackAbove demo 0xFB00 3 ∧ StackAbove demo demo.sp 3 ∧
    StackAbove demo demo.sp 2 ∧ StackAbove demo demo.sp 1 := by
  simp only [StackAbove]
  decide

theorem test_meets_BitBranches : ∃ v, demo.load .bit (saddrEA 0x20) = .next (v, demo) ∧ v.getLsbD 7 = true ∧
    v.getLsbD 6 = false :=
  ⟨_, load_ram (by decide), by decide, by decide⟩

/-- Both clauses: bit 7 of the byte is 1, bit 6 is 0. -/
theorem test_meets_TestAndClear : ∃ v, demo.load .bit demo.hlEA = .next (v, demo) ∧ v.getLsbD 7 = true ∧
    Writable demo.midway .bit demo.hlEA (setBit v 7 false ||| demo.raisedMidway .bit demo.hlEA) ∧ v.getLsbD 6 = false :=
  ⟨_, load_ram (by decide), by decide, demo_midway ▸ writable_ram (by decide), by decide⟩

theorem test_meets_Loops : ∃ v, demo.load .byte (saddrEA 0x20) = .next (v, demo) ∧
    Writable demo.midway .byte (saddrEA 0x20) (v - 1) :=
  ⟨_, load_ram (by decide), demo_midway ▸ writable_ram (by decide)⟩

theorem test_meets_Control : demo.psw.getLsbD 2 = false := by decide

theorem test_meets_Standby : demo.dev.clock.cls = false ∧
    { demo with dev := { demo.dev with clock := { demo.dev.clock with cls := true } } }.dev.clock.cls
    = true := by decide

set_option maxRecDepth 20000 in
/-- HALT mode with an empty agenda, and with a clock of the peripherals to come. -/
theorem test_meets_HaltHeld :
    let s := { demo with dev := demo.dev.enterHalt }
    s.dev.mode = .halt ∧ s.agenda = [] ∧ s.between = [] ∧ (s.dev.move .prs).resetReq = none ∧
      (s.dev.move .prs).wakes = false := by decide

/-- Requests number 0 and 28 pending and unmasked, of high and of low priority. -/
theorem test_meets_MaskableInterrupt :
    let first := { demo with psw := 0x82, dev := ((demo.dev.wr .IF0L 0x01).wr .MK0L 0xFE).wr .PR0L 0xFE }
    let last := { demo with psw := 0x80, dev := (demo.dev.wr .IF1H 0x10).wr .MK1H 0xEF }
    first.dev.chosenRequest = some (0, false) ∧ first.psw.getLsbD 7 = true ∧ last.dev.chosenRequest = some (28, true) ∧
      last.psw.getLsbD 7 = true ∧ last.psw.getLsbD 1 = false ∧ demo.dev.chosenRequest = none := by decide

set_option maxRecDepth 20000 in
/-- The three clauses: a hold, nothing to accept, something to accept. -/
theorem test_meets_Boundary :
    let after := fun d : Devices => (d.clockSwitches 2).momentPasses d
    (after demo.dev).resetReq = none ∧ (after demo.dev).mode = .run ∧ demo.holding.hold = true ∧ demo.hold = false ∧
    (after demo.dev).chosenRequest = none ∧
    (after ((demo.dev.wr .IF0L 0x01).wr .MK0L 0xFE)).chosenRequest = some (0, true) := by decide

/-- Both ends of the range, with every kind of access. -/
theorem test_meets_RequestRegistersHold : gives (demo.load .byte 0xFFE0) (fun _ => true) = true ∧
    gives (demo.store .byte 0xFFEB 0xFF) (fun _ => true) = true ∧ gives (demo.loadWord 0xFFEA) (fun _ => true) = true ∧
    gives (demo.storeWord 0xFFE0 0x0000) (fun _ => true) = true := by decide

theorem test_meets_ResetSequence : { demo with dev := demo.dev.enterHalt }.dev.mode ≠ .run ∧
    { demo with dev := demo.dev.enterStop }.dev.mode ≠ .run := by decide

set_option maxRecDepth 20000 in
theorem test_meets_StepKeepsInv : Inv (State.reset.withFetchWord 8 0x51) ∧
    gives (step (State.reset.withFetchWord 8 0x51)) (fun _ => true) = true :=
  ⟨⟨by decide, by decide, by decide, by decide, rfl⟩, by decide⟩

/-- Every clause: the clock running and stopped, and a reset that waits for it. -/
theorem test_meets_WatchdogWrites :
    let d := { demo.dev with chip := { demo.dev.chip with option80 := 0x10 } }
    d.wdton = true ∧ d.rlRuns = true ∧ (d.wr .RCM 0x02).rlRuns = false ∧ d.wdtClocked = true ∧
      { d with wdt := { d.wdt with waiting := true } }.wdtClocked = true ∧ (0x35#8) ≠ 0xAC := by decide

/-- Every clause: the clock before the overflow of 2^11 clocks, the overflow, both bounds after a write, the first write, the last
closed and the first open count. -/
theorem test_meets_WatchdogOverflow :
    let d := { demo.dev with chip := { demo.dev.chip with option80 := 0x12 } }
    let written := fun n => { d with wdt := { d.wdt with written := true, count := n } }
    d.wdtClocked = true ∧ d.wdt.waiting = false ∧ (d.chip.option80.toNat / 2) % 8 = 1 ∧ 2046 + 1 < 2 ^ (10 + 1) ∧
      2 ^ (10 + 1) ≤ 2047 + 1 ∧ (written 2044).wdtClocked = true ∧ 2044 + 1 < 2 ^ (10 + 1) - 2 ∧ 2 ^ (10 + 1) + 2 ≤ 2049 + 1 ∧
      d.wdton = true ∧ d.wdt.written = false ∧ d.rlRuns = true ∧
      (written 1536).wdtClosed ≤ 1536 ∧ 1535 < (written 1535).wdtClosed ∧
      ((written 1535).wr .RCM 0x02).rlRuns = false ∧ ((written 1535).wr .RCM 0x02).wdtClosed = 1536 ∧
      d.chip.option80.toNat / 32 % 4 = 0 := by decide

/-- Every clause: P10 as output, as input driven from outside, and as undriven input with its pull-up; P121, P124 and P122
driven, P122 as the external clock input, and P144, which has no pin. -/
theorem test_meets_PortReads :
    let d := demo.dev.wr .PM1 0xFE
    portReg 1 = some .P1 ∧ modeReg 1 = some .PM1 ∧ (portMask d.series 1).getLsbD 0 = true ∧ d.bit .PM1 0 = false ∧
      demo.dev.bit .PM1 0 = true ∧ demo.dev.lcdPin (1, 0) = false ∧ demo.dev.inputClosed (1, 0) = false ∧
      (Cells.read (fun _ => 0) (demo.dev.env.drive 1 0 true).driven 1).getLsbD 0 = true ∧ pullReg 1 = some .PU1 ∧
      (Cells.read (fun _ => 0) demo.dev.env.driven 1).getLsbD 0 = false ∧ (demo.dev.wr .PU1 0x01).bit .PU1 0 = true ∧
      demo.dev.transmitPin (1, 0) = false ∧
    portReg 12 = some .P12 ∧ modeReg 12 = some .PM12 ∧ (∀ n ∈ [(1 : BitNo), 2, 4], demo.dev.inputClosed (12, n.val) = false ∧
      (Cells.read (fun _ => 0) (demo.dev.env.drive 12 n true).driven 12).getLsbD n.val = true) ∧
    demo.dev.fieldOf .OSCCTL 6 2 ≠ 3 ∧ (demo.dev.wr .OSCCTL 0xC0).fieldOf .OSCCTL 6 2 = 3 ∧
    portReg 14 = some .P14 ∧ modeReg 14 = some .PM14 := by decide

/-- Both clauses: a count below the compare value, and equal to it. -/
theorem test_meets_IntervalTimer :
    let d := (demo.dev.wr .TMC50 0x80).wr .CR50 0x05
    d.tm5On .n0 = true ∧ d.tm5Pwm .n0 = false ∧ d.rd (tm5Counter .n0) ≠ d.rd (tm5Compare .n0) ∧
      (d.wr .TM50 0x05).rd (tm5Counter .n0) = (d.wr .TM50 0x05).rd (tm5Compare .n0) ∧ d.fieldOf .PRM00 0 3 ≠ 7 ∧
      d.carrierMode = false := by decide

/-! The statements whose only hypothesis is a list of forms, used at one of them. -/

theorem test_meets_AluRegisters (h : Obligations.AluRegisters) : ∃ t, exec (.addRA .x) demo = .next t :=
  let ⟨t, e, _⟩ := h demo .add .x .x .x 0 (demo.reg .a) (.addRA .x) (by simp [aluRA])
  ⟨t, e⟩

theorem test_meets_CarryOperations (h : Obligations.CarryOperations) : (∃ t, exec .not1Cy demo = .next t) ∧
    ∃ t, exec (.mov1CyPsw 7) demo = .next t :=
  let ⟨t, e, _⟩ := (h demo 7 .not1Cy (!demo.cy)).1 (by simp)
  let ⟨u, f, _⟩ := (h demo 7 (.mov1CyPsw 7) (demo.psw.getLsbD 7)).2 (List.Mem.head _)
  ⟨⟨t, e⟩, u, f⟩

theorem test_meets_BitRegisters (h : Obligations.BitRegisters) : (∃ t, exec (.set1A 7) demo = .next t) ∧
    ∃ t, exec (.clr1Psw 2) demo = .next t :=
  let ⟨t, e, _⟩ := (h demo 7 (.set1A 7) true).1 (by simp)
  let ⟨u, f, _⟩ := (h demo 2 (.clr1Psw 2) false).2 (by simp)
  ⟨⟨t, e⟩, u, f⟩

theorem test_meets_Branches (h : Obligations.Branches) : ∃ t, exec (.brAddr16 0xFFFF) demo = .next t :=
  let ⟨t, e, _⟩ := h demo 0xFFFF 0 (.brAddr16 0xFFFF) true 0xFFFF (by simp)
  ⟨t, e⟩

end Sys2Proof.Tests
end

section
/-! SUPPORT. Accesses to WDTE (R622, R624): what a 1-bit access and an 8-bit write come to, and what an abnormal one does. -/

namespace Sys2Proof.Machine

/-- A register that the product has is found at its address. -/
theorem Devices.regAt_addr {d : Devices} {r : Sfr} (h : r.on d.chip.product = true) : d.regAt r.addr = some r := by
  simp [Devices.regAt, Sfr.ofAddr_addr, h]

/-! ### Accesses by address -/

/-- Every product has WDTE. -/
theorem Devices.regAt_wdte (d : Devices) : d.regAt 0xFF99 = some .WDTE :=
  Devices.regAt_addr (r := .WDTE) rfl

/-- A 1-bit read of WDTE is an abnormal access. -/
theorem Devices.sfrRead_bit_wdte (d : Devices) : d.sfrRead .bit 0xFF99 = .next (d.readWdte, d.wdtViolation) := by
  simp [Devices.sfrRead, Devices.regAt_wdte, Devices.bitOnWdte]

/-- A 1-bit write of WDTE is an abnormal access, whatever the value is. -/
theorem Devices.sfrWrite_bit_wdte (d : Devices) (v : Byte) : d.sfrWrite .bit 0xFF99 v = .next d.wdtViolation := by
  simp [Devices.sfrWrite, Devices.regAt_wdte, Devices.bitOnWdte]

/-- A write of the register WDTE does what `writeWdte` says, and moves no pin. -/
theorem Devices.writeByte_wdte (d : Devices) (v : Byte) : d.writeByte .byte .WDTE v = .next (d.writeWdte v) := rfl

/-- The register list allows an 8-bit write of WDTE (R41). -/
theorem Devices.sfrWrite_byte_wdte (d : Devices) (v : Byte) : d.sfrWrite .byte 0xFF99 v = .next (d.writeWdte v) := by
  have allowed : Units.allow (Sfr.info .WDTE).units .byte = true := rfl
  simp [Devices.sfrWrite, Devices.regAt_wdte, Devices.bitOnWdte, allowed, Devices.writeByte_wdte]

/-! ### The watchdog -/

/-- With the watchdog enabled an abnormal access requests a reset, or leaves it waiting for a stopped clock. -/
theorem Devices.wdtViolation_of_wdton {d : Devices} (on : d.wdton = true) :
    d.wdtViolation =
      if d.rlRuns then d.requestReset .watchdog else { d with wdt := { d.wdt with waiting := true } } := by
  simp [Devices.wdtViolation, on]

/-- A written value other than ACH is abnormal, whether or not the watchdog is enabled. -/
theorem Devices.writeWdte_of_ne (d : Devices) {v : Byte} (ne : v ≠ 0xAC) : d.writeWdte v = d.wdtViolation := by
  have abnormal : (v != 0xAC) = true := bne_iff_ne.mpr ne
  cases on : d.wdton with
  | false => simp [Devices.writeWdte, Devices.wdtViolation, on]
  | true => simp only [Devices.writeWdte, on, abnormal, Bool.not_true, Bool.false_eq_true, if_false, if_true]

/-- The reset that waited for the clock is requested at its next clock. -/
theorem Devices.wdtClock_of_waiting {d : Devices} (clocked : d.wdtClocked = true) (waits : d.wdt.waiting = true) :
    d.wdtClock = d.requestReset .watchdog := by
  simp [Devices.wdtClock, clocked, waits]

/-- Settles O56: both 1-bit accesses and every 8-bit write but that of ACH are the same abnormal access (R624). -/
theorem watchdogWrites : Obligations.WatchdogWrites := by
  intro d v on
  dsimp only
  rw [← Devices.wdtViolation_of_wdton on]
  refine ⟨d.sfrWrite_bit_wdte v, ⟨d.readWdte, d.sfrRead_bit_wdte⟩, fun ne => ?_, Devices.wdtClock_of_waiting⟩
  rw [d.sfrWrite_byte_wdte, d.writeWdte_of_ne ne]

end Sys2Proof.Machine
end

section
/-! SUPPORT. The registers whose value after a reset depends on its cause (R871): RESF, LVIM and LVIS. -/

namespace Sys2Proof.Machine

/-- The stored bytes after a reset: nothing but RESF, LVIM and LVIS is written over the reset values. -/
theorem State.takeReset_rd (s : State) (c : ResetCause) (r : Sfr) :
    (s.takeReset c).dev.rd r =
      (((State.reset.dev.wr .RESF (resfAfter c (s.dev.rd .RESF))).wr .LVIM (lviAfter c (s.dev.rd .LVIM))).wr .LVIS
        (lviAfter c (s.dev.rd .LVIS))).rd r := rfl

@[simp] theorem State.takeReset_rd_resf (s : State) (c : ResetCause) :
    (s.takeReset c).dev.rd .RESF = resfAfter c (s.dev.rd .RESF) := by
  rw [s.takeReset_rd, Devices.rd_wr_other _ (by decide), Devices.rd_wr_other _ (by decide), Devices.rd_wr_same]

@[simp] theorem State.takeReset_rd_lvim (s : State) (c : ResetCause) :
    (s.takeReset c).dev.rd .LVIM = lviAfter c (s.dev.rd .LVIM) := by
  rw [s.takeReset_rd, Devices.rd_wr_other _ (by decide), Devices.rd_wr_same]

@[simp] theorem State.takeReset_rd_lvis (s : State) (c : ResetCause) :
    (s.takeReset c).dev.rd .LVIS = lviAfter c (s.dev.rd .LVIS) := by
  rw [s.takeReset_rd, Devices.rd_wr_same]

/-- Settles O52: RESF, LVIM and LVIS hold what `resfAfter` and `lviAfter` give, and each cause has its row of R871. -/
theorem resetCauses : Obligations.ResetCauses := by
  intro s c
  dsimp only
  rw [s.takeReset_rd_resf, s.takeReset_rd_lvim, s.takeReset_rd_lvis]
  refine ⟨?wdtrf, ?lvirf, rfl, rfl⟩
  case wdtrf => cases c <;> simp [resfAfter]
  case lvirf => cases c <;> simp [resfAfter]

end Sys2Proof.Machine
end

section
/-! SUPPORT. The decoder on what the encoder gives (R173 to R181), and the step at an encoding. -/

namespace Sys2Proof

/-! ### Operands that the maps give to another row (R179) -/

/-- A saddr offset that is not that of PSW selects the saddr form. -/
theorem pswOr_of_saddrOk {s : Byte} (ok : saddrOk s = true) (psw i : Instr) : pswOr s psw i = i :=
  if_neg (bne_iff_ne.mp ok)

/-- A saddrp offset that is not that of SP selects the saddrp form. -/
theorem spOr_of_saddrpOk {s : Byte} (ok : saddrpOk s = true) (sp i : Instr) : spOr s sp i = i := by
  obtain ⟨-, ne⟩ := Bool.and_eq_true_iff.mp ok
  exact if_neg (bne_iff_ne.mp ne)

/-! ### From the first byte's map to the decoder -/

/-- The 16-bit operands of a well-formed instruction are even. -/
theorem Instr.hasOddOperand_of_wf {i : Instr} (wf : i.wf = true) : i.hasOddOperand = false := by
  cases i with
  | movwSaddrpImm | movwAxSaddrp | movwSaddrpAx =>
    obtain ⟨even, -⟩ := Bool.and_eq_true_iff.mp wf
    exact (congrArg (!·) even)
  | movwSfrpImm | movwAxSfrp | movwSfrpAx | movwAxAddr16 | movwAddr16Ax => exact congrArg (!·) wf
  | _ => rfl

section Maps

variable {b : Byte} {bs rest : List Byte} {i : Instr}

/-- What the map of the first byte gives is decoded, where it is well-formed. -/
theorem decode_of_map (wf : i.wf = true) (map : decodeFirst (b.toNat / 16) (b.toNat % 16) bs = .ok (i, rest)) :
    decode (b :: bs) = .ok (i, rest) := by
  simp [decode, map, checkEven, Instr.hasOddOperand_of_wf wf]

/-- The saddr form of a row that it shares with PSW. -/
theorem decode_of_pswOr {s : Byte} {psw : Instr} (ok : saddrOk s = true) (wf : i.wf = true)
    (map : decodeFirst (b.toNat / 16) (b.toNat % 16) bs = .ok (pswOr s psw i, rest)) : decode (b :: bs) = .ok (i, rest) :=
  decode_of_map wf (pswOr_of_saddrOk ok psw i ▸ map)

/-- The saddrp form of a row that it shares with SP. -/
theorem decode_of_spOr {s : Byte} {sp : Instr} (ok : saddrpOk s = true) (wf : i.wf = true)
    (map : decodeFirst (b.toNat / 16) (b.toNat % 16) bs = .ok (spOr s sp i, rest)) : decode (b :: bs) = .ok (i, rest) :=
  decode_of_map wf (spOr_of_saddrpOk ok sp i ▸ map)

/-- A 16-bit operand, put together from the two bytes it was cut into. -/
theorem decode_of_join {f : Word → Instr} {w : Word} (wf : (f w).wf = true)
    (map : decodeFirst (b.toNat / 16) (b.toNat % 16) bs = .ok (f (join (hi w) (lo w)), rest)) :
    decode (b :: bs) = .ok (f w, rest) :=
  decode_of_map wf (by rw [map, join_hi_lo])

end Maps

/-- The bits of a byte and the banks, one by one. -/
theorem BitNo.cases (bit : BitNo) : bit = 0 ∨ bit = 1 ∨ bit = 2 ∨ bit = 3 ∨ bit = 4 ∨ bit = 5 ∨ bit = 6 ∨ bit = 7 := by
  revert bit
  decide

theorem bank_cases (bank : Fin 4) : bank = 0 ∨ bank = 1 ∨ bank = 2 ∨ bank = 3 := by
  revert bank
  decide

/-- The odd columns of the last four rows of the map are CALLT, with the table entry in the opcode (R179). -/
theorem decodeFirst_callt {row col : Nat} (last : 0xC ≤ row) (odd : col % 2 = 1) (bs : List Byte) :
    decodeFirst row col bs = take0 (.callt ⟨(16 * (row % 4) + col) / 2 % 32, Nat.mod_lt _ (by decide)⟩) bs := by
  have row8 : ¬row < 8 := by omega
  have rowC : ¬row < 0xC := by omega
  have col8 : ¬col = 0x8 := by omega
  have colC : ¬col = 0xC := by omega
  unfold decodeFirst
  rw [if_neg row8, if_neg col8, if_neg colC, if_neg rowC, if_pos odd]

/-- The place of CALLT in the map. -/
theorem calltOpcode_place : ∀ entry : Fin 32,
    0xC ≤ (0xC1 ||| entryField entry).toNat / 16 ∧ (0xC1 ||| entryField entry).toNat % 16 % 2 = 1 ∧
      (16 * ((0xC1 ||| entryField entry).toNat / 16 % 4) + (0xC1 ||| entryField entry).toNat % 16) / 2 % 32 = entry.val := by
  decide

/-- CALLT is decoded. -/
theorem decode_callt (entry : Fin 32) (rest : List Byte) : decode (encode (.callt entry) ++ rest) = .ok (.callt entry, rest) := by
  obtain ⟨last, odd, place⟩ := calltOpcode_place entry
  refine decode_of_map rfl ((decodeFirst_callt last odd rest).trans ?_)
  simp only [place]
  rfl

/-- Settles O1, by the constructors of the instruction: the fields of its opcode bytes take each of their values, and an operand
that selects another row is not well-formed. -/
theorem decodeEncode : Obligations.DecodeEncode := by
  intro i rest wf
  cases i with
  | movRImm r | incR r | decR r | addRA r | addcRA r | subRA r | subcRA r | andRA r | orRA r | xorRA r | cmpRA r =>
    cases r <;> rfl
  | movAR r | movRA r | xchAR r | addAR r | addcAR r | subAR r | subcAR r | andAR r | orAR r | xorAR r | cmpAR r =>
    cases r with
    | a => exact absurd wf (by decide)
    | _ => rfl
  | incwRp rp | decwRp rp | pushRp rp | popRp rp => cases rp <;> rfl
  | movwAxRp rp | movwRpAx rp | xchwAxRp rp =>
    cases rp with
    | ax => exact absurd wf (by decide)
    | _ => rfl
  | movwRpImm rp => cases rp <;> exact decode_of_join wf rfl
  | movAAddr16 | movAddr16A | xchAAddr16 | movwAxAddr16 | movwAddr16Ax | addAAddr16 | addcAAddr16 | subAAddr16
  | subcAAddr16 | andAAddr16 | orAAddr16 | xorAAddr16 | cmpAAddr16 | addwAxImm | subwAxImm | cmpwAxImm | call | brAddr16 =>
    exact decode_of_join wf rfl
  | movSaddrImm | movASaddr | movSaddrA => exact decode_of_pswOr wf wf rfl
  | mov1CySaddr _ bit | and1CySaddr _ bit | or1CySaddr _ bit | xor1CySaddr _ bit | mov1SaddrCy _ bit | set1Saddr _ bit
  | clr1Saddr _ bit | btSaddr _ bit | bfSaddr _ bit | btclrSaddr _ bit =>
    obtain rfl | rfl | rfl | rfl | rfl | rfl | rfl | rfl := BitNo.cases bit <;> exact decode_of_pswOr wf wf rfl
  | movwAxSaddrp | movwSaddrpAx => exact decode_of_spOr wf wf rfl
  | movwSaddrpImm s w =>
    have map : decode (encode (.movwSaddrpImm s w) ++ rest) = _ := decode_of_spOr (i := .movwSaddrpImm s (join (hi w) (lo w))) wf wf rfl
    rwa [join_hi_lo] at map
  | movwSfrpImm | movwSpImm => exact decode_of_join wf rfl
  | set1Psw bit | clr1Psw bit =>
    -- bit 7 is IE, whose rows are EI and DI
    obtain rfl | rfl | rfl | rfl | rfl | rfl | rfl | rfl := BitNo.cases bit
    case inr.inr.inr.inr.inr.inr.inr => exact absurd wf (by decide)
    all_goals rfl
  | mov1CySfr _ bit | mov1CyA bit | mov1CyPsw bit | mov1CyHl bit | and1CySfr _ bit | and1CyA bit | and1CyPsw bit | and1CyHl bit
  | or1CySfr _ bit | or1CyA bit | or1CyPsw bit | or1CyHl bit | xor1CySfr _ bit | xor1CyA bit | xor1CyPsw bit | xor1CyHl bit
  | mov1SfrCy _ bit | mov1ACy bit | mov1PswCy bit | mov1HlCy bit | set1Sfr _ bit | set1A bit | set1Hl bit | clr1Sfr _ bit
  | clr1A bit | clr1Hl bit | btSfr _ bit | btA bit | btPsw bit | btHl bit | bfSfr _ bit | bfA bit | bfPsw bit | bfHl bit
  | btclrSfr _ bit | btclrA bit | btclrPsw bit | btclrHl bit | callf bit =>
    obtain rfl | rfl | rfl | rfl | rfl | rfl | rfl | rfl := BitNo.cases bit <;> rfl
  | callt entry => exact decode_callt entry rest
  | sel bank => obtain rfl | rfl | rfl | rfl := bank_cases bank <;> rfl
  | movwAxSfrp | movwSfrpAx => exact decode_of_map wf rfl
  | _ => rfl

/-- Settles O2: the words of R173 to R181. -/
theorem decodeExamples : Obligations.DecodeExamples := by
  exact ⟨rfl, rfl, rfl, rfl, rfl, rfl, rfl, rfl, rfl, rfl, rfl, rfl, rfl, rfl, rfl, rfl⟩

end Sys2Proof
end

section
/-! SUPPORT. A step of the CPU: the instruction it runs, and the invariant that every step keeps. -/

namespace Sys2Proof.Machine

/-! ### The CPU's turn -/

/-- In the CPU's turn the step is that turn. -/
theorem step_of_cpuTurn {s q : State} (turn : CpuTurn s q) : step s = q.cpuTurn := by
  obtain ⟨empty, rfl⟩ | ⟨ms, rest, first, rfl⟩ := turn
  · simp [step, empty]
  · simp [step, first]

/-- Taking the turn changes neither PC, nor memory, nor what lies outside the CPU. -/
theorem CpuTurn.frame {s q : State} (turn : CpuTurn s q) : q.pc = s.pc ∧ q.mem = s.mem ∧ q.dev = s.dev := by
  obtain ⟨-, rfl⟩ | ⟨ms, rest, -, rfl⟩ := turn <;> exact ⟨rfl, rfl, rfl⟩

/-- The bytes of code depend on memory and on what lies outside the CPU only. -/
theorem codeBytes_congr {s q : State} (mem : q.mem = s.mem) (dev : q.dev = s.dev) (a : Word) (n : Nat) :
    q.codeBytes a n = s.codeBytes a n := by
  induction n generalizing a with
  | zero => rfl
  | succ n ih => simp [State.codeBytes, State.codeByte, State.flashByte, mem, dev, ih]

/-- The turn of a running CPU where the bytes at PC are an instruction. -/
theorem cpuTurn_of_decode {s : State} {i : Instr} {rest : List Byte} (run : s.dev.mode = .run)
    (clock : s.dev.cpuClockRuns = true) (code : decode (s.codeBytes s.pc 4) = .ok (i, rest)) :
    let t := { s with pc := s.pc + BitVec.ofNat 16 ((s.codeBytes s.pc 4).length - rest.length) }
    s.cpuTurn = andThen (exec i t) fun u => u.leftover.boundary (t.clocksOf i) := by
  simp [State.cpuTurn, run, clock, State.instruction, State.fetchInstr, code]

/-- Settles O3. -/
theorem stepRunsInstruction : Obligations.StepRunsInstruction := by
  intro s q i rest turn run clock _ code
  obtain ⟨pc, mem, dev⟩ := turn.frame
  have bytes : q.codeBytes q.pc 4 = s.codeBytes s.pc 4 := pc ▸ codeBytes_congr mem dev _ _
  rw [step_of_cpuTurn turn, cpuTurn_of_decode (dev ▸ run) (dev ▸ clock) (bytes ▸ code), bytes, pc]

/-- Settles O4: the decoder gives back the encoded instruction, and what is left over are the bytes after the encoding. -/
theorem stepRunsEncoding : Obligations.StepRunsEncoding := by
  intro s q i rest turn run clock wf code
  have decoded : decode (s.codeBytes s.pc 4) = .ok (i, rest) := code ▸ decodeEncode i rest wf
  have length : (s.codeBytes s.pc 4).length - rest.length = i.length := by simp [code, Instr.length]
  have runs := stepRunsInstruction s q i rest turn run clock wf decoded
  rwa [length] at runs

/-! ### The invariant -/

/-- A meaning that always answers: the next state is the one it gives. -/
theorem Sound.of_next {s t : State} (e : (.next s : Res State) = .next t) (h : Sound s) : Sound t := by
  cases e
  exact h

/-- `Sound` speaks of memory and PSW only. -/
theorem Sound.congr {s t : State} (h : Sound s) (mem : t.mem = s.mem) (psw : t.psw = s.psw) : Sound t :=
  ⟨mem ▸ h.memCanonical, psw ▸ h.pswBit2⟩

theorem Sound.holding {s : State} (h : Sound s) : Sound s.holding := ⟨h.memCanonical, h.pswBit2⟩

/-- Every instruction that completes keeps memory canonical and PSW bit 2 zero. -/
theorem Sound.exec {s t : State} {i : Instr} (h : Sound s) (e : exec i s = .next t) : Sound t := by
  cases i with dsimp only [Machine.exec] at e
  | movRImm | movAR | movRA => exact of_next e (h.putReg _ _)
  | movASaddr | movASfr | movAAddr16 | movADe | movAHl | movAHlByte | movAHlB | movAHlC => exact h.loadA e
  | movSaddrImm | movSfrImm | movSaddrA | movSfrA | movAddr16A | movDeA | movHlA | movHlByteA | movHlBA | movHlCA =>
    exact h.store e
  | movPswImm | movPswA | set1Psw | clr1Psw | mov1PswCy | ei | di | mov1CyPsw | and1CyPsw | or1CyPsw | xor1CyPsw =>
    exact of_next e (holding (h.putPsw _))
  | movAPsw => exact of_next e (holding (h.putReg _ _))
  | xchAR => exact of_next e ((h.putReg _ _).putReg _ _)
  | xchASaddr | xchASfr | xchAAddr16 | xchADe | xchAHl | xchAHlByte | xchAHlB | xchAHlC => exact h.exchangeA e
  | movwRpImm | movwAxRp | movwRpAx | incwRp | decwRp | mulu | movwAxSp => exact of_next e (h.putPair _ _)
  | movwSaddrpImm | movwSfrpImm | movwSaddrpAx | movwSfrpAx | movwAddr16Ax => exact h.storeWord e
  | movwAxSaddrp | movwAxSfrp | movwAxAddr16 => exact h.loadAx e
  | xchwAxRp => exact of_next e ((h.putPair _ _).putPair _ _)
  | addAImm | addAR | addRA | addcAImm | addcAR | addcRA | subAImm | subAR | subRA | subcAImm | subcAR | subcRA | andAImm | andAR
  | andRA | orAImm | orAR | orRA | xorAImm | xorAR | xorRA | cmpAImm | cmpAR | cmpRA => exact of_next e (h.aluReg _ _ _)
  | addSaddrImm | addcSaddrImm | subSaddrImm | subcSaddrImm | andSaddrImm | orSaddrImm | xorSaddrImm | cmpSaddrImm =>
    exact h.aluToMem e
  | addASaddr | addAAddr16 | addAHl | addAHlByte | addAHlB | addAHlC | addcASaddr | addcAAddr16 | addcAHl | addcAHlByte | addcAHlB
  | addcAHlC | subASaddr | subAAddr16 | subAHl | subAHlByte | subAHlB | subAHlC | subcASaddr | subcAAddr16 | subcAHl | subcAHlByte
  | subcAHlB | subcAHlC | andASaddr | andAAddr16 | andAHl | andAHlByte | andAHlB | andAHlC | orASaddr | orAAddr16 | orAHl | orAHlByte
  | orAHlB | orAHlC | xorASaddr | xorAAddr16 | xorAHl | xorAHlByte | xorAHlB | xorAHlC | cmpASaddr | cmpAAddr16 | cmpAHl | cmpAHlByte
  | cmpAHlB | cmpAHlC => exact h.aluFromMem e
  | addwAxImm | subwAxImm => exact of_next e ((h.putPair _ _).putFlags16 _ _)
  | cmpwAxImm => exact of_next e (h.putFlags16 _ _)
  | divuw => exact of_next e ((h.putPair _ _).putReg _ _)
  | incR | decR | adjba | adjbs => exact of_next e ((h.putReg _ _).putFlags _)
  | incSaddr | decSaddr => exact h.countMem e
  | rorA | rolA | rorcA | rolcA => exact of_next e ((h.putReg _ _).putPsw _)
  | ror4Hl | rol4Hl => exact h.rotateDigits e
  | mov1CySaddr | mov1CySfr | mov1CyHl | and1CySaddr | and1CySfr | and1CyHl | or1CySaddr | or1CySfr | or1CyHl | xor1CySaddr
  | xor1CySfr | xor1CyHl =>
    obtain ⟨b, u, bit, e⟩ := andThen2_eq_next.mp e
    exact of_next e ((h.loadBit bit).putPsw _)
  | mov1CyA | and1CyA | or1CyA | xor1CyA | set1Cy | clr1Cy | not1Cy => exact of_next e (h.putPsw _)
  | mov1SaddrCy | mov1SfrCy | mov1HlCy | set1Saddr | set1Sfr | set1Hl | clr1Saddr | clr1Sfr | clr1Hl => exact h.storeBit e
  | mov1ACy | set1A | clr1A => exact of_next e (h.putReg _ _)
  | call | callf | callt => exact h.callTo e
  | brk => exact h.enter e
  | ret =>
    obtain ⟨w, u, popped, e⟩ := andThen2_eq_next.mp e
    exact of_next e ((h.popWord popped).congr rfl rfl)
  | reti | retb =>
    obtain ⟨u, left, e⟩ := andThen_eq_next.mp e
    exact of_next e (holding (h.leave left))
  | pushPsw =>
    obtain ⟨u, pushed, e⟩ := andThen_eq_next.mp e
    exact of_next e (holding (h.push pushed))
  | pushRp =>
    obtain ⟨u, high, e⟩ := andThen_eq_next.mp e
    obtain ⟨w, low, e⟩ := andThen_eq_next.mp e
    exact of_next e (((h.store high).store low).congr rfl rfl)
  | popPsw =>
    obtain ⟨v, u, popped, e⟩ := andThen2_eq_next.mp e
    exact of_next e (holding ((h.popByte popped).putPsw _))
  | popRp =>
    obtain ⟨v, u, high, e⟩ := andThen2_eq_next.mp e
    obtain ⟨v', u', low, e⟩ := andThen2_eq_next.mp e
    exact of_next e (((((h.load high).putReg _ _).load low).putReg _ _).congr rfl rfl)
  | movwSpImm | movwSpAx | brAddr16 | brAx | brRel | nop | halt => exact of_next e (h.congr rfl rfl)
  | bcRel | bncRel | bzRel | bnzRel | btA | bfA => exact of_next e (h.branchIf _ _)
  | btPsw | bfPsw => exact of_next e (holding (h.branchIf _ _))
  | btSaddr | btSfr | btHl | bfSaddr | bfSfr | bfHl =>
    obtain ⟨b, u, bit, e⟩ := andThen2_eq_next.mp e
    exact of_next e ((h.loadBit bit).branchIf _ _)
  | btclrSaddr | btclrSfr | btclrHl =>
    obtain ⟨b, u, bit, e⟩ := andThen2_eq_next.mp e
    exact of_next e ((h.testClear bit).branchIf _ _)
  | btclrA =>
    refine of_next e ?_
    split
    · exact (h.putReg _ _).congr rfl rfl
    · exact h
  | btclrPsw =>
    refine of_next (s := State.holding _) e (holding ?_)
    split
    · exact (h.putPsw _).congr rfl rfl
    · exact h
  | dbnzB | dbnzC => exact of_next e ((h.putReg _ _).branchIf _ _)
  | dbnzSaddr =>
    obtain ⟨b, u, written, e⟩ := andThen2_eq_next.mp e
    exact of_next e ((h.modify written).branchIf _ _)
  | sel => exact of_next e ((h.putPsw _).putPsw _)
  | stop =>
    change (if _ then _ else _) = _ at e
    split at e
    · cases e
    · exact of_next e (h.congr rfl rfl)

/-- What `Sound` says, with no hold, request or move left over, is the invariant. -/
theorem Sound.inv {s : State} (h : Sound s) (hold : s.hold = false) (req : s.dev.resetReq = none) (between : s.between = []) :
    Inv s :=
  ⟨h.memCanonical, h.pswBit2, hold, req, between⟩

/-- A reset begins anew. -/
theorem Sound.inv_takeReset {s : State} (h : Sound s) (c : ResetCause) (between : s.between = []) : Inv (s.takeReset c) :=
  (h.takeReset c).inv rfl rfl between

/-- A requested reset leaves no request. -/
theorem Sound.inv_settle {s : State} (h : Sound s) (hold : s.hold = false) (between : s.between = []) : Inv s.settle := by
  unfold State.settle
  split
  · exact h.inv_takeReset _ between
  · next req => exact h.inv hold req between

/-- The check for requests ends the hold, and the reset that an acceptance may request takes place. -/
theorem inv_of_checkRequests {s t : State} (e : s.checkRequests = .next t) (h : Sound s) (req : s.dev.resetReq = none)
    (between : s.between = []) : Inv t := by
  unfold State.checkRequests at e
  split at e
  · cases e
    exact ⟨h.memCanonical, h.pswBit2, rfl, req, between⟩
  · next hold =>
    split at e
    · obtain ⟨u, accepted, e⟩ := andThen_eq_next.mp e
      cases e
      have ended : Sound { u with hold := false } := (h.acceptInterrupt accepted).congr rfl rfl
      exact ended.inv_settle rfl ((acceptInterrupt_between accepted).trans between)
    · cases e
      exact h.inv (Bool.eq_false_iff.mpr hold) req between

/-- The boundary of an instruction restores the invariant. -/
theorem inv_of_boundary {s t : State} {n : Nat} (e : s.boundary n = .next t) (h : Sound s) (between : s.between = []) :
    Inv t := by
  obtain ⟨d, ⟨c, -, rfl⟩ | ⟨req, e⟩⟩ := boundary_cases e
  · have counted : Sound { s with cpuClocks := s.cpuClocks + n, dev := d } := h.congr rfl rfl
    exact counted.inv_takeReset c between
  · exact inv_of_checkRequests e (h.congr rfl rfl) ((wake_resetReq d).trans req) between

/-- An instruction, or what happens where none can be fetched, restores the invariant. -/
theorem inv_of_instruction {s t : State} (e : s.instruction = .next t) (h : Sound s) : Inv t := by
  unfold State.instruction at e
  split at e
  · next error _ =>
    cases error <;> simp only [State.fetchStop] at e
    case truncated =>
      split at e
      · cases e
        exact h.leftover.inv_takeReset _ (leftover_between s)
      · cases e
    all_goals cases e
  · next i n _ =>
    obtain ⟨u, executed, e⟩ := andThen_eq_next.mp e
    have started : Sound { s with pc := s.pc + BitVec.ofNat 16 n } := h.congr rfl rfl
    exact inv_of_boundary e (started.exec executed).leftover (leftover_between u)

/-! ### Turns -/

@[simp] theorem leftover_hold (s : State) : s.leftover.hold = s.hold := by
  unfold State.leftover
  split <;> rfl

@[simp] theorem leftover_dev (s : State) : s.leftover.dev = s.dev := by
  unfold State.leftover
  split <;> rfl

/-- The CPU's turn keeps the invariant, whatever moves it brings for the middle of its instruction. -/
theorem inv_of_cpuTurn {s t : State} (e : s.cpuTurn = .next t) (h : Sound s) (hold : s.hold = false)
    (req : s.dev.resetReq = none) : Inv t := by
  unfold State.cpuTurn at e
  split at e
  · split at e
    · exact inv_of_instruction e h
    · cases e
  all_goals
    cases e
    exact h.leftover.inv (by simpa using hold) (by simpa using req) (leftover_between s)

/-- The turn of another agent keeps the invariant. -/
theorem inv_of_otherTurn {s t : State} {m : AgentMove} (e : s.otherTurn m = .next t) (h : Inv s) : Inv t := by
  have moved (d : Devices) : Sound { s with dev := d } := ⟨h.memCanonical, h.pswBit2⟩
  unfold State.otherTurn State.afterMove at e
  split at e
  · cases e
    exact (moved _).inv_takeReset _ h.noBetween
  · next req =>
    have released : (s.dev.move m).release.wake.resetReq = none := by simpa using req
    dsimp only at e
    split at e
    · exact inv_of_checkRequests e (moved _) released h.noBetween
    · cases e
      exact (moved _).inv h.noHold released h.noBetween

/-- Settles O54, by whose turn it is. -/
theorem stepKeepsInv : Obligations.StepKeepsInv := by
  intro s t h e
  have sound : Sound s := ⟨h.memCanonical, h.pswBit2⟩
  unfold step at e
  split at e
  · exact inv_of_cpuTurn e sound h.noHold h.noReset
  · exact inv_of_cpuTurn e (sound.congr rfl rfl) h.noHold h.noReset
  · exact inv_of_otherTurn e ⟨h.memCanonical, h.pswBit2, h.noHold, h.noReset, h.noBetween⟩

/-- Settles O55. -/
theorem resetHasInv : Obligations.ResetHasInv :=
  ⟨Memory.wf_empty 0, by decide, rfl, rfl, rfl⟩

end Sys2Proof.Machine
end

section
/-! SUPPORT. Stored bytes in canonical form, byte accesses by area, and 16-bit accesses (R101, R110, R120, R121, R430). -/

namespace Sys2Proof.Machine

/-! ### The canonical form -/

namespace Cells

/-- The entries of a canonical list are the addresses that do not read as an unlisted one. -/
theorem mem_iff_read {dflt : Nat → Byte} {cs : List Host.Cell} (canonical : wf dflt cs = true) (a : Nat) (v : Byte) :
    (a, v) ∈ cs ↔ read dflt cs a = v ∧ v ≠ dflt a := by
  induction cs with
  | nil =>
    exact ⟨fun m => absurd m List.not_mem_nil, fun e => absurd e.1.symm e.2⟩
  | cons c rest ih =>
    obtain ⟨b, w⟩ := c
    simp only [wf, sorted, List.all_cons, Bool.and_eq_true, List.all_eq_true, decide_eq_true_eq, bne_iff_ne] at canonical ih
    obtain ⟨⟨above, sortedRest⟩, wNe, restNe⟩ := canonical
    by_cases here : b = a
    · subst here
      have notMem : (b, v) ∉ rest := fun m => absurd (above _ m) (Nat.lt_irrefl b)
      simp only [List.mem_cons, Prod.mk.injEq, true_and, notMem, or_false, read, if_true]
      exact ⟨fun e => ⟨e.symm, e ▸ wNe⟩, fun e => e.1.symm⟩
    · simp only [List.mem_cons, Prod.mk.injEq, Ne.symm here, false_and, false_or, read, here, if_false]
      exact ih ⟨sortedRest, restNe⟩

/-- Strictly rising addresses, as a pairwise order. -/
theorem pairwise_of_sorted {cs : List Host.Cell} (h : sorted cs = true) : cs.Pairwise fun c d => c.1 < d.1 := by
  induction cs with
  | nil => exact .nil
  | cons c rest ih =>
    simp only [sorted, Bool.and_eq_true, List.all_eq_true, decide_eq_true_eq] at h
    exact .cons h.1 (ih h.2)

/-- Canonical lists that read alike everywhere are equal: they have the same entries, in the same order. -/
theorem eq_of_read {dflt : Nat → Byte} {cs ds : List Host.Cell} (hc : wf dflt cs = true) (hd : wf dflt ds = true)
    (alike : ∀ a, read dflt cs a = read dflt ds a) : cs = ds := by
  have rising {es : List Host.Cell} (h : wf dflt es = true) := pairwise_of_sorted (Bool.and_eq_true_iff.mp h).1
  have distinct {es : List Host.Cell} (h : wf dflt es = true) : es.Nodup :=
    (rising h).imp fun lt e => absurd (e ▸ lt) (Nat.lt_irrefl _)
  have same : cs.Perm ds := (List.perm_ext_iff_of_nodup (distinct hc) (distinct hd)).mpr fun ⟨a, v⟩ => by
    rw [mem_iff_read hc, mem_iff_read hd, alike]
  exact same.eq_of_pairwise (fun _ _ _ _ lt gt => absurd lt (Nat.lt_asymm gt)) (rising hc) (rising hd)

end Cells

/-- Settles O5. -/
theorem memoryLaws : Obligations.MemoryLaws := by
  refine ⟨fun m a v wf => ⟨Memory.wf_put wf a v, m.get_put_same a v, fun b ne => m.get_put_other ne v⟩, ?_⟩
  rintro ⟨epoch, cs⟩ ⟨_, ds⟩ wfm wfn rfl alike
  exact congrArg (Memory.mk epoch) (Cells.eq_of_read wfm wfn alike)

/-! ### Byte accesses -/

/-- A readable byte is read. -/
theorem load_of_readable {s : State} {u : AccessUnit} {ea : Word} (readable : Readable s u ea) :
    ∃ v t, s.load u ea = .next (v, t) := by
  unfold Readable at readable
  simp only [State.load]
  cases area : s.dev.area ea.toNat <;> simp only [area] at readable ⊢
  case sfr =>
    obtain caught | ⟨⟨v, d⟩, read⟩ := readable
    · exact ⟨_, _, if_pos caught⟩
    · split
      · exact ⟨_, _, rfl⟩
      · exact ⟨v, _, by rw [read, andThen2_next]⟩
  all_goals exact ⟨_, _, rfl⟩

/-- A writable byte is written. -/
theorem store_of_writable {s : State} {u : AccessUnit} {ea : Word} {v : Byte} (writable : Writable s u ea v) :
    ∃ t, s.store u ea v = .next t := by
  unfold Writable at writable
  simp only [State.store]
  cases area : s.dev.area ea.toNat <;> simp only [area] at writable ⊢
  case sfr =>
    obtain caught | ⟨d, write⟩ := writable
    · exact ⟨_, if_pos caught⟩
    · split
      · exact ⟨_, rfl⟩
      · exact ⟨_, by rw [write, andThen_next]⟩
  all_goals exact ⟨_, rfl⟩

/-- A byte is stored, and nothing else, wherever it is writable. -/
theorem stored_of_writable {s : State} {u : AccessUnit} {ea : Word} {v : Byte} (writable : Writable s u ea v) :
    ∃ t, s.store u ea v = .next t ∧ Stored s t u ea v :=
  let ⟨t, e⟩ := store_of_writable writable
  ⟨t, e, store_spec e⟩

/-- Settles O6. -/
theorem memAccessCompletes : Obligations.MemAccessCompletes := fun _ _ _ _ =>
  ⟨fun readable => let ⟨b, t, e⟩ := load_of_readable readable; ⟨b, t, e, load_spec e⟩, stored_of_writable⟩

/-! ### What answers at an address -/

/-- From FF00H on the registers answer. -/
theorem area_of_register (d : Devices) {a : Nat} (h : 0xFF00 ≤ a) : d.area a = registerArea a := by
  simp [Devices.area, h]

/-- Where the detection does not look no access is caught. -/
theorem sfrCaught_of_blind (s : State) {a : Nat} (h : watchdogBlind a = true) : s.sfrCaught a = false := by
  simp [State.sfrCaught, Devices.catchesAccess, h]

/-- Every setting that IMS may be given opens the last 256 bytes of the high-speed RAM (R6, R900). -/
theorem area_of_imsAllowed {d : Devices} {a : Nat} (ims : imsAllowed (d.rd .IMS) = true) (low : 0xFE00 ≤ a)
    (high : a < 0xFF00) : d.area a = .ram := by
  have product : d.chip.product.ramStart ≤ 0xFE00 := by
    unfold Product.ramStart
    split <;> decide
  have setting : imsRamStart (d.rd .IMS) ≤ 0xFE00 := by
    have opened : imsRamStart (d.rd .IMS) ≠ 0xFF00 := by
      simp only [imsAllowed, Bool.and_eq_true, bne_iff_ne] at ims
      exact ims.1.2
    revert opened
    unfold imsRamStart
    split <;> decide
  have inRam : d.ramStart ≤ a := by
    unfold Devices.ramStart
    omega
  simp [Devices.area, show ¬0xFF00 ≤ a by omega, inRam]

/-- The address of a register, as a word. -/
theorem toNat_regAddr (psw : Byte) (r : Reg8) : (BitVec.ofNat 16 (regAddr psw r)).toNat = regAddr psw r := by
  have := regAddr_bounds psw r
  rw [BitVec.toNat_ofNat]
  omega

/-- Settles O8: the registers lie in RAM, so a byte access there is one to the register. -/
theorem State.registerArea : Obligations.RegisterArea := by
  intro s r u v ims
  have bounds := regAddr_bounds s.psw r
  have inRam : s.dev.area (BitVec.ofNat 16 (regAddr s.psw r)).toNat = .ram := by
    rw [toNat_regAddr]
    exact area_of_imsAllowed ims (by omega) (by omega)
  refine ⟨?read, ?write, reg_putReg_same s r v⟩
  case read => exact (load_ram inRam).trans (by rw [toNat_regAddr]; rfl)
  case write => exact (store_ram inRam).trans (by rw [toNat_regAddr]; rfl)

/-! ### Where nothing answers -/

/-- Nothing answers at an address: a closed area, or an SFR address without a register. -/
def Unanswered (d : Devices) (a : Nat) : Prop := d.area a = .closed ∨ d.area a = .sfr ∧ d.regAt a = none

/-- A read where nothing answers. -/
theorem load_unanswered {s : State} {u : AccessUnit} {ea : Word} (h : Unanswered s.dev ea.toNat) :
    ∃ b, s.load u ea = .next (b, { s with dev := (s.dev.strayAccess ea.toNat).readAny }) := by
  obtain area | ⟨area, none⟩ := h
  · exact ⟨_, by simp only [State.load, area]; rfl⟩
  · cases caught : s.dev.catchesAccess ea.toNat with
    | true => exact ⟨_, by simp only [State.load, area, State.sfrCaught, none, caught]; rfl⟩
    | false =>
      simp only [State.load, area, State.sfrCaught, none, caught, strayAccess_noted caught, Devices.sfrRead_of_regAt_none none,
        State.touch, holdsAt_of_regAt_none none]
      exact ⟨_, rfl⟩

/-- A write where nothing answers. -/
theorem store_unanswered {s : State} {u : AccessUnit} {ea : Word} {v : Byte} (h : Unanswered s.dev ea.toNat) :
    s.store u ea v = .next { s with dev := s.dev.strayAccess ea.toNat } := by
  obtain area | ⟨area, none⟩ := h
  · simp only [State.store, area]
  · cases caught : s.dev.catchesAccess ea.toNat with
    | true => simp [State.store, area, State.sfrCaught, none, caught]
    | false =>
      simp [State.store, area, State.sfrCaught, none, caught, strayAccess_noted caught, Devices.sfrWrite_of_regAt_none none,
        State.touch, holdsAt_of_regAt_none none]

/-- Settles O9: in the three kinds of places the access is a stray one, which is caught or recorded. -/
theorem illegalAccess : Obligations.IllegalAccess := by
  intro s u ea v
  refine ⟨fun unanswered wdton seen => ?caught, fun h => ?noted⟩
  case caught =>
    have stray : s.dev.strayAccess ea.toNat = s.dev.requestReset .watchdog :=
      strayAccess_caught (by simp [Devices.catchesAccess, wdton, seen])
    exact stray ▸ ⟨load_unanswered unanswered, store_unanswered unanswered⟩
  case noted =>
    obtain ⟨unanswered, unseen⟩ | ⟨area, off⟩ := h
    · have stray : s.dev.strayAccess ea.toNat = s.dev.note ea.toNat :=
        strayAccess_noted (by obtain h | h := unseen <;> simp [Devices.catchesAccess, h])
      have read := load_unanswered (s := s) (u := u) unanswered
      have write := store_unanswered (s := s) (u := u) (v := v) unanswered
      rw [stray] at read write
      exact ⟨read, write⟩
    · constructor
      · exact ⟨_, by simp only [State.load, area, off]; rfl⟩
      · simp [State.store, area, off, Devices.note]

/-! ### Request registers hold interrupt requests -/

/-- The registers at FFE0H to FFEBH are registers of the SFR area that no detection looks at. -/
theorem requestRegister_area (s : State) {a : Nat} (low : 0xFFE0 ≤ a) (high : a ≤ 0xFFEB) :
    s.dev.area a = .sfr ∧ s.sfrCaught a = false ∧ holdsAt a = true := by
  refine ⟨?_, sfrCaught_of_blind s (by simp [watchdogBlind, low]), by simp [holdsAt, low, high]⟩
  rw [area_of_register s.dev (by omega), registerArea, if_neg (by omega), if_neg (by omega)]

/-- Settles O50: every form of access ends in `touch`. -/
theorem requestRegistersHold : Obligations.RequestRegistersHold := by
  intro s t u ea v w low high
  obtain ⟨area, free, holds⟩ := requestRegister_area s low high
  refine ⟨fun e => ?load, fun e => ?store, fun e => ?loadWord, fun e => ?storeWord⟩
  case load =>
    simp only [State.load, area, free, Bool.false_eq_true, if_false] at e
    obtain ⟨_, d, -, e⟩ := andThen2_eq_next.mp e
    cases e
    simp [holds]
  case store =>
    simp only [State.store, area, free, Bool.false_eq_true, if_false] at e
    obtain ⟨d, -, e⟩ := andThen_eq_next.mp e
    cases e
    simp [holds]
  case loadWord =>
    simp only [State.loadWord, area, free, Bool.false_eq_true, if_false] at e
    split at e
    · cases e
    · obtain ⟨_, d, -, e⟩ := andThen2_eq_next.mp e
      cases e
      simp [holds]
  case storeWord =>
    simp only [State.storeWord, area, free, Bool.false_eq_true, if_false] at e
    split at e
    · cases e
    · obtain ⟨d, -, e⟩ := andThen_eq_next.mp e
      cases e
      simp [holds]

end Sys2Proof.Machine
end

section
/-! SUPPORT. 16-bit accesses: RAM, SP, the flag registers of interrupts, and timer 00 at rest (R48, R110, R404, R546). -/

namespace Sys2Proof

/-! ### The bytes of a combination of words -/

@[simp] theorem lo_and (v w : Word) : lo (v &&& w) = lo v &&& lo w := by simp [lo, BitVec.extractLsb'_and]
@[simp] theorem hi_and (v w : Word) : hi (v &&& w) = hi v &&& hi w := by simp [hi, BitVec.extractLsb'_and]
@[simp] theorem lo_or (v w : Word) : lo (v ||| w) = lo v ||| lo w := by simp [lo, BitVec.extractLsb'_or]
@[simp] theorem hi_or (v w : Word) : hi (v ||| w) = hi v ||| hi w := by simp [hi, BitVec.extractLsb'_or]
@[simp] theorem lo_not (v : Word) : lo (~~~v) = ~~~lo v := by ext i hi; simp [lo]; omega
@[simp] theorem hi_not (v : Word) : hi (~~~v) = ~~~hi v := by ext i hi; simp [Sys2Proof.hi]; omega

/-- A word is the join of its bytes. -/
theorem word_eq_iff {v w : Word} : v = w ↔ lo v = lo w ∧ hi v = hi w :=
  ⟨fun e => e ▸ ⟨rfl, rfl⟩, fun ⟨l, h⟩ => by rw [← join_hi_lo v, ← join_hi_lo w, l, h]⟩

/-- The address after an even one. -/
theorem toNat_succ_of_even {a : Word} (even : a.getLsbD 0 = false) : (a + 1).toNat = a.toNat + 1 := by
  have : a.toNat % 2 = 0 := by simpa [BitVec.getLsbD, Nat.testBit_zero] using even
  have := a.isLt
  rw [BitVec.toNat_add, show (1 : Word).toNat = 1 from rfl]
  omega

end Sys2Proof

namespace Sys2Proof.Machine

/-! ### Stored words -/

/-- A word register is its low byte at its address and its high byte at the next. -/
theorem Devices.rdWord_wrWord_same (d : Devices) (r : Sfr) (v : Word) : (d.wrWord r v).rdWord r = v := by
  simp [Devices.rdWord, Devices.wrWord, Cells.read_write_same, Cells.read_write_other]

/-- A write of a word register whose two addresses both name it leaves every other register alone. -/
theorem Devices.rd_wrWord_other (d : Devices) {q r : Sfr} (both : Sfr.ofAddr (r.addr + 1) = some r) (ne : q ≠ r) (v : Word) :
    (d.wrWord r v).rd q = d.rd q := by
  have low : q.addr ≠ r.addr := fun e => ne (Sfr.addr_inj e)
  have high : q.addr ≠ r.addr + 1 := fun e => ne (Option.some.inj ((Sfr.ofAddr_addr q).symm.trans (e ▸ both)))
  simp [Devices.rd, Devices.wrWord, Cells.read_write_other, low, high]

/-- The word of two registers of one byte each. -/
theorem Devices.rdWord_of_pair (d : Devices) {r r' : Sfr} (next : r'.addr = r.addr + 1) :
    d.rdWord r = join (d.rd r') (d.rd r) := by
  simp [Devices.rdWord, Devices.rd, next]

/-! ### 16-bit accesses to the SFR area -/

/-- A 16-bit read of a register that is not caught and answers. -/
theorem loadWord_sfr {s : State} {a w : Word} {d : Devices} (even : a.getLsbD 0 = false) (area : s.dev.area a.toNat = .sfr)
    (free : s.sfrCaught a.toNat = false) (read : s.dev.sfrReadWord a.toNat = .next (w, d)) :
    s.loadWord a = .next (w, State.touch { s with dev := d } a.toNat) := by
  simp only [State.loadWord, even, area, free, read, Bool.false_eq_true, if_false, andThen2_next]

/-- A 16-bit write of a register that is not caught and answers. -/
theorem storeWord_sfr {s : State} {a v : Word} {d : Devices} (even : a.getLsbD 0 = false) (area : s.dev.area a.toNat = .sfr)
    (free : s.sfrCaught a.toNat = false) (write : s.dev.sfrWriteWord a.toNat v = .next d) :
    s.storeWord a v = .next (State.touch { s with dev := d } a.toNat) := by
  simp only [State.storeWord, even, area, free, write, Bool.false_eq_true, if_false, andThen_next]

/-- No hold outside FFE0H to FFEBH. -/
theorem touch_of_holdsAt_false {s : State} {a : Nat} (h : holdsAt a = false) : s.touch a = s := by
  simp [State.touch, h]

/-- An access to FFE0H to FFEBH holds. -/
theorem touch_of_holdsAt {s : State} {a : Nat} (h : holdsAt a = true) : s.touch a = s.holding := by
  simp [State.touch, h]

/-! ### Flag registers -/

/-- A request flag register takes a byte whose bits exist (R404). -/
theorem Devices.writeIf_of_within {d : Devices} {r : Sfr} {v : Byte} (within : v &&& ~~~d.flagBits r = 0) :
    d.writeIf r v = .next (d.wr r v) := by
  simp [Devices.writeIf, refuseIf, outside, within]

/-- A mask or priority flag register takes a byte with 1 in the bits that do not exist (R405, R406). -/
theorem Devices.writeMk_of_ones {d : Devices} {r : Sfr} {v : Byte} (ones : v ||| d.flagBits r = 0xFF) :
    d.writeMk r v = .next (d.wr r v) := by
  simp [Devices.writeMk, refuseIf, ones]

/-- A word that IF0 or IF1 takes is written byte by byte. -/
theorem Devices.writeIf_pair {d : Devices} {r r' : Sfr} {v : Word}
    (within : v &&& ~~~join (d.flagBits r') (d.flagBits r) = 0) :
    (andThen (d.writeIf r (lo v)) fun e => e.writeIf r' (hi v)) = .next ((d.wr r (lo v)).wr r' (hi v)) := by
  obtain ⟨low, high⟩ := word_eq_iff.mp within
  simp only [lo_and, lo_not, lo_join, hi_and, hi_not, hi_join] at low high
  rw [Devices.writeIf_of_within low, andThen_next]
  exact Devices.writeIf_of_within (d := d.wr r (lo v)) high

/-- A word that MK0, MK1, PR0 or PR1 takes is written byte by byte. -/
theorem Devices.writeMk_pair {d : Devices} {r r' : Sfr} {v : Word}
    (ones : v ||| join (d.flagBits r') (d.flagBits r) = 0xFFFF) :
    (andThen (d.writeMk r (lo v)) fun e => e.writeMk r' (hi v)) = .next ((d.wr r (lo v)).wr r' (hi v)) := by
  obtain ⟨low, high⟩ := word_eq_iff.mp ones
  simp only [lo_or, lo_join, hi_or, hi_join] at low high
  rw [Devices.writeMk_of_ones low, andThen_next]
  exact Devices.writeMk_of_ones (d := d.wr r (lo v)) high

/-- What a 16-bit write has done to the bytes of a pair of flag registers, and that it has done nothing else but hold. -/
def FlagWordStored (s t : State) (r r' : Sfr) (v : Word) : Prop :=
  t.dev.rd r = lo v ∧ t.dev.rd r' = hi v ∧ (∀ q : Sfr, q ≠ r → q ≠ r' → t.dev.rd q = s.dev.rd q) ∧
    t = { s.holding with dev := { s.dev with sfrs := t.dev.sfrs } }

section FlagWords

variable {s : State} {a v : Word} {r r' : Sfr}

/-- A 16-bit read of a pair of flag registers. -/
theorem loadWord_flags (even : a.getLsbD 0 = false) (low : 0xFFE0 ≤ a.toNat) (high : a.toNat ≤ 0xFFEB)
    (next : r'.addr = r.addr + 1) (read : s.dev.sfrReadWord a.toNat = .next (s.dev.rdWord r, s.dev)) :
    s.loadWord a = .next (join (s.dev.rd r') (s.dev.rd r), s.holding) := by
  obtain ⟨area, free, holds⟩ := requestRegister_area s low high
  rw [loadWord_sfr even area free read, touch_of_holdsAt holds, s.dev.rdWord_of_pair next]

/-- A 16-bit write of a pair of flag registers that takes the word. -/
theorem storeWord_flags (even : a.getLsbD 0 = false) (low : 0xFFE0 ≤ a.toNat) (high : a.toNat ≤ 0xFFEB) (ne : r ≠ r')
    (write : s.dev.sfrWriteWord a.toNat v = .next ((s.dev.wr r (lo v)).wr r' (hi v))) :
    ∃ t, s.storeWord a v = .next t ∧ FlagWordStored s t r r' v := by
  obtain ⟨area, free, holds⟩ := requestRegister_area s low high
  refine ⟨_, storeWord_sfr even area free write, ?_⟩
  rw [touch_of_holdsAt holds]
  refine ⟨?_, Devices.rd_wr_same _ _ _, fun q ne1 ne2 => ?_, rfl⟩
  · exact (Devices.rd_wr_other _ ne _).trans (Devices.rd_wr_same _ _ _)
  · exact (Devices.rd_wr_other _ ne2 _).trans (Devices.rd_wr_other _ ne1 _)

end FlagWords

/-! ### Timer 00 at rest -/

/-- Stopped, timer 00 has no prohibited combination of settings. -/
theorem Devices.tm00Prohibited_of_stopped {d : Devices} (stopped : d.tm00Mode = 0) : d.tm00Prohibited = false := by
  simp [Devices.tm00Prohibited, stopped]

/-- A write of CR000 or CR010 does not start the timer. -/
theorem Devices.tm00Mode_wrWord {d : Devices} {r : Sfr} (both : Sfr.ofAddr (r.addr + 1) = some r) (ne : Sfr.TMC00 ≠ r)
    (v : Word) : (d.wrWord r v).tm00Mode = d.tm00Mode := by
  simp [Devices.tm00Mode, Devices.fieldOf, Devices.rd_wrWord_other d both ne]

theorem Devices.readWordReg_cr000 {d : Devices} (stopped : d.tm00Mode = 0) :
    d.readWordReg .CR000 = .next (d.rdWord .CR000, d) := by
  simp [Devices.readWordReg, Devices.readCapture, Devices.tm00Capturing0, stopped]

theorem Devices.readWordReg_cr010 {d : Devices} (stopped : d.tm00Mode = 0) :
    d.readWordReg .CR010 = .next (d.rdWord .CR010, d) := by
  simp [Devices.readWordReg, Devices.readCapture, Devices.tm00Capturing1, stopped]

theorem Devices.readWordReg_tm00 {d : Devices} (stopped : d.tm00Mode = 0) :
    d.readWordReg .TM00 = .next (d.rdWord .TM00, d) := by
  simp [Devices.readWordReg, Devices.readTm00, stopped]

theorem Devices.writeCr000_of_stopped {d : Devices} (stopped : d.tm00Mode = 0) (v : Word) :
    d.writeCr000 v = .next (d.wrWord .CR000 v) := by
  have still : (d.wrWord .CR000 v).tm00Mode = 0 := (Devices.tm00Mode_wrWord rfl (by decide) v).trans stopped
  simp [Devices.writeCr000, Devices.wildIf, stopped, refuseIf, Devices.tm00Prohibited_of_stopped still]

theorem Devices.writeCr010_of_stopped {d : Devices} (stopped : d.tm00Mode = 0) (v : Word) :
    d.writeCr010 v = .next { d.wrWord .CR010 v with tm00 := { d.tm00 with rewritten := false } } := by
  simp [Devices.writeCr010, Devices.wildIf, stopped, Devices.wrWord]

/-- The 16-bit registers of timer 00 lie in the SFR area, outside the detection and the request registers. -/
theorem timer00_area (s : State) {a : Word} (row : a ∈ [(0xFF10 : Word), 0xFF12, 0xFF14]) :
    a.getLsbD 0 = false ∧ s.dev.area a.toNat = .sfr ∧ s.sfrCaught a.toNat = false ∧ holdsAt a.toNat = false := by
  have inArea (b : Nat) (h : registerArea b = .sfr) (ge : 0xFF00 ≤ b) : s.dev.area b = .sfr :=
    (area_of_register s.dev ge).trans h
  simp only [List.mem_cons, List.not_mem_nil, or_false] at row
  obtain rfl | rfl | rfl := row <;>
    exact ⟨by decide, inArea _ (by decide) (by decide), sfrCaught_of_blind s (by decide), by decide⟩

/-- A 16-bit access to timer 00. -/
theorem loadWord_timer00 {s : State} {a w : Word} {r : Sfr} (row : a ∈ [(0xFF10 : Word), 0xFF12, 0xFF14])
    (pair : s.dev.pairAt a.toNat = some r) (read : s.dev.readWordReg r = .next (w, s.dev)) :
    s.loadWord a = .next (w, s) := by
  obtain ⟨even, area, free, holds⟩ := timer00_area s row
  rw [loadWord_sfr even area free (by rw [Devices.sfrReadWord, pair]; exact read), touch_of_holdsAt_false holds]

theorem storeWord_timer00 {s : State} {a v : Word} {r : Sfr} {d : Devices} (row : a ∈ [(0xFF10 : Word), 0xFF12, 0xFF14])
    (pair : s.dev.pairAt a.toNat = some r) (write : s.dev.writeWordReg r v = .next d) :
    s.storeWord a v = .next { s with dev := d } := by
  obtain ⟨even, area, free, holds⟩ := timer00_area s row
  rw [storeWord_sfr even area free (by rw [Devices.sfrWriteWord, pair]; exact write), touch_of_holdsAt_false holds]

/-! ### The clauses of O7 -/

/-- An odd address is refused (U5). -/
theorem wordAccess_odd {s : State} {ea v : Word} (odd : ea.getLsbD 0 = true) :
    s.loadWord ea = .refused .oddOperand ∧ s.storeWord ea v = .refused .oddOperand := by
  simp only [State.loadWord, State.storeWord, odd, if_true, and_self]

/-- Only memory differs between two states, in the listed bytes. -/
theorem Frame.of_mem {s : State} {m : Memory} {written : List Nat} (h : ∀ a, a ∉ written → m.get a = s.mem.get a) :
    Frame s { s with mem := m } written s.psw s.pc :=
  ⟨h, rfl, rfl, rfl, rfl, rfl, rfl, rfl, rfl, rfl⟩

/-- A word stored in RAM: its bytes, and nothing else. -/
theorem storeWord_ram_frame {s : State} {ea v : Word} (even : ea.getLsbD 0 = false) (low : s.dev.area ea.toNat = .ram)
    (high : s.dev.area (ea + 1).toNat = .ram) :
    ∃ t, s.storeWord ea v = .next t ∧ t.mem.get ea.toNat = lo v ∧ t.mem.get (ea + 1).toNat = hi v ∧
      Frame s t [ea.toNat, (ea + 1).toNat] s.psw s.pc := by
  have ne : ea.toNat ≠ (ea + 1).toNat := by rw [toNat_succ_of_even even]; omega
  refine ⟨_, storeWord_ram even low high, ?_, Memory.get_put_same _ _ _, Frame.of_mem fun a out => ?_⟩
  · exact (Memory.get_put_other _ ne _).trans (Memory.get_put_same _ _ _)
  · simp only [List.mem_cons, List.not_mem_nil, or_false, not_or] at out
    rw [Memory.get_put_other _ out.2, Memory.get_put_other _ out.1]

/-- Settles O7. -/
theorem wordAccess : Obligations.WordAccess := by
  intro s ea v
  refine ⟨wordAccess_odd, fun even low high => ?ram, ?sp, fun a r r' k ones row => ?flags, fun stopped => ⟨fun a r row => ?cr, ?tm⟩⟩
  case ram =>
    rw [← toNat_succ_of_even even] at high ⊢
    exact ⟨loadWord_ram even low high, storeWord_ram_frame even low high⟩
  case sp =>
    have area : s.dev.area 0xFF1C = .sp := area_of_register s.dev (by decide)
    constructor
    · simp [State.loadWord, area]
    · simp [State.storeWord, area]
  case flags =>
    simp only [List.mem_cons, Prod.mk.injEq, List.not_mem_nil, or_false] at row
    obtain ⟨rfl, rfl, rfl, rfl, rfl⟩ | ⟨rfl, rfl, rfl, rfl, rfl⟩ | ⟨rfl, rfl, rfl, rfl, rfl⟩ | ⟨rfl, rfl, rfl, rfl, rfl⟩ |
      ⟨rfl, rfl, rfl, rfl, rfl⟩ | ⟨rfl, rfl, rfl, rfl, rfl⟩ := row
    case inl | inr.inl =>
      exact ⟨loadWord_flags rfl (by decide) (by decide) rfl rfl, fun within =>
        storeWord_flags rfl (by decide) (by decide) (by decide) (Devices.writeIf_pair within)⟩
    all_goals
      exact ⟨loadWord_flags rfl (by decide) (by decide) rfl rfl, fun ones =>
        storeWord_flags rfl (by decide) (by decide) (by decide) (Devices.writeMk_pair ones)⟩
  case cr =>
    simp only [List.mem_cons, Prod.mk.injEq, List.not_mem_nil, or_false] at row
    obtain ⟨rfl, rfl⟩ | ⟨rfl, rfl⟩ := row
    · refine ⟨loadWord_timer00 (by decide) rfl (Devices.readWordReg_cr000 stopped), _,
        storeWord_timer00 (by decide) rfl (Devices.writeCr000_of_stopped stopped v), Devices.rdWord_wrWord_same _ _ _,
        fun q ne => Devices.rd_wrWord_other _ rfl ne v, rfl⟩
    · refine ⟨loadWord_timer00 (by decide) rfl (Devices.readWordReg_cr010 stopped), _,
        storeWord_timer00 (by decide) rfl (Devices.writeCr010_of_stopped stopped v), Devices.rdWord_wrWord_same s.dev _ _,
        fun q ne => Devices.rd_wrWord_other s.dev rfl ne v, rfl⟩
  case tm =>
    exact ⟨loadWord_timer00 (by decide) rfl (Devices.readWordReg_tm00 stopped), storeWord_timer00 (by decide) rfl rfl⟩

end Sys2Proof.Machine
end

section
/-! SUPPORT. What the shared operations leave unchanged, and from it the data transfers (R201 to R227, R375 to R377). -/

namespace Sys2Proof.Machine

/-! ### Frames of the operations on the state -/

namespace Frame

variable {s t u : State} {xs ys : List Nat} {psw psw' : Byte} {pc pc' : Word}

/-- A state that nothing has changed. -/
theorem refl (s : State) : Frame s s [] s.psw s.pc := .of_mem fun _ _ => rfl

/-- One change after another. -/
theorem trans (h : Frame s t xs psw pc) (k : Frame t u ys psw' pc') : Frame s u (xs ++ ys) psw' pc' where
  mem a out := by
    rw [List.mem_append, not_or] at out
    rw [k.mem a out.2, h.mem a out.1]
  psw := k.psw
  pc := k.pc
  sp := k.sp.trans h.sp
  hold := k.hold.trans h.hold
  draws := k.draws.trans h.draws
  cpuClocks := k.cpuClocks.trans h.cpuClocks
  agenda := k.agenda.trans h.agenda
  between := k.between.trans h.between
  dev := k.dev.trans h.dev

/-- More bytes may have changed. -/
theorem mono (h : Frame s t xs psw pc) (sub : xs ⊆ ys) : Frame s t ys psw pc :=
  { h with mem := fun a out => h.mem a fun m => out (sub m) }

/-- The same state under other names of its PSW and PC. -/
theorem cast (h : Frame s t xs psw pc) (epsw : psw' = psw) (epc : pc' = pc) : Frame s t xs psw' pc' :=
  epsw ▸ epc ▸ h

/-- Requests held before are held after. -/
theorem holding (h : Frame s t xs psw pc) : Frame s.holding t.holding xs psw pc :=
  ⟨h.mem, h.psw, h.pc, h.sp, rfl, h.draws, h.cpuClocks, h.agenda, h.between, h.dev⟩

/-- A change of PSW after another. -/
theorem thenPsw (h : Frame s t xs psw pc) (p : Byte) : Frame s { t with psw := p } xs p pc :=
  ⟨h.mem, rfl, h.pc, h.sp, h.hold, h.draws, h.cpuClocks, h.agenda, h.between, h.dev⟩

/-- A change of PC after another. -/
theorem thenPc (h : Frame s t xs psw pc) (c : Word) : Frame s { t with pc := c } xs psw c :=
  ⟨h.mem, h.psw, rfl, h.sp, h.hold, h.draws, h.cpuClocks, h.agenda, h.between, h.dev⟩

/-- A change of SP after another. -/
theorem thenSp (h : Frame s t xs psw pc) (w : Word) : Frame { s with sp := w } { t with sp := w } xs psw pc :=
  ⟨h.mem, h.psw, h.pc, rfl, h.hold, h.draws, h.cpuClocks, h.agenda, h.between, h.dev⟩

/-- A register written in the bank that some PSW selects. -/
theorem putRegOf (s : State) (p : Byte) (r : Reg8) (v : Byte) : Frame s (s.putRegOf p r v) [regAddr p r] s.psw s.pc :=
  .of_mem fun _ out => Memory.get_put_other _ (fun e => out (List.mem_singleton.mpr e)) _

/-- A register written in the selected bank. -/
theorem putReg (s : State) (r : Reg8) (v : Byte) : Frame s (s.putReg r v) [regAddr s.psw r] s.psw s.pc :=
  putRegOf s s.psw r v

/-- A register pair written in the selected bank. -/
theorem putPair (s : State) (rp : RegPair) (w : Word) : Frame s (s.putPair rp w) (pairAddrs s.psw rp) s.psw s.pc :=
  (putReg s _ _).trans (putReg (s.putReg _ _) _ _)

end Frame

/-! ### What a read leaves as it was -/

/-- A register of the state after a read is one of the state before. -/
theorem Loaded.reg {s t : State} {u : AccessUnit} {ea : Word} {v : Byte} (l : Loaded s t u ea v) (r : Reg8) :
    t.reg r = s.reg r := by
  simp [State.reg, l.mem, l.psw]

/-- A 16-bit read changes nothing of memory, PSW and PC. -/
theorem loadWord_keeps {s t : State} {ea w : Word} (e : s.loadWord ea = .next (w, t)) :
    t.mem = s.mem ∧ t.psw = s.psw ∧ t.pc = s.pc := by
  unfold State.loadWord at e
  split at e
  · cases e
  · cases area : s.dev.area ea.toNat <;> simp only [area] at e
    case sp => cases e; exact ⟨rfl, rfl, rfl⟩
    case psw => cases e
    case sfr =>
      split at e
      · cases e; exact ⟨rfl, rfl, rfl⟩
      · obtain ⟨v, d, -, e⟩ := andThen2_eq_next.mp e
        cases e
        simp
    all_goals
      obtain ⟨l, t, low, e⟩ := andThen2_eq_next.mp e
      obtain ⟨h, u, high, e⟩ := andThen2_eq_next.mp e
      cases e
      have low := load_spec low
      have high := load_spec high
      exact ⟨high.mem.trans low.mem, high.psw.trans low.psw, high.pc.trans low.pc⟩

/-- A 16-bit write changes at most its two bytes of memory, and nothing of PC, the draws and the moves to come. -/
theorem storeWord_keeps {s t : State} {ea v : Word} (e : s.storeWord ea v = .next t) :
    (∀ a, a ≠ ea.toNat → a ≠ (ea + 1).toNat → t.mem.get a = s.mem.get a) ∧
      t.pc = s.pc ∧ t.draws = s.draws ∧ t.agenda = s.agenda ∧ t.between = s.between := by
  unfold State.storeWord at e
  split at e
  · cases e
  · cases area : s.dev.area ea.toNat <;> simp only [area] at e
    case sp => cases e; simp
    case psw => cases e
    case sfr =>
      split at e
      · cases e; simp
      · obtain ⟨d, -, e⟩ := andThen_eq_next.mp e
        cases e
        simp
    all_goals
      obtain ⟨u, low, e⟩ := andThen_eq_next.mp e
      have low := store_spec low
      have high := store_spec e
      exact ⟨fun a ne ne1 => (high.mem a ne1).trans (low.mem a ne), high.pc.trans low.pc, high.draws.trans low.draws,
        high.agenda.trans low.agenda, high.between.trans low.between⟩

/-! ### Read, modify, write -/

/-- A byte that is read, changed and can be written back is stored there, after the moves that take place between. -/
theorem modify_of_writable {s t : State} {u : AccessUnit} {ea : Word} {f : Byte → Option Byte} {v w : Byte}
    (read : s.load u ea = .next (v, t)) (change : f v = some w)
    (writable : Writable t.midway u ea (w ||| t.raisedMidway u ea)) :
    ∃ x, Stored t.midway x u ea (w ||| t.raisedMidway u ea) ∧ s.modify u ea f = .next (v, x) :=
  let ⟨x, write, stored⟩ := stored_of_writable writable
  ⟨x, stored, modify_eq_next.mpr ⟨t, read, .inr ⟨w, change, write⟩⟩⟩

/-- An access in bytes adds nothing to what is written back. -/
theorem modify_byte {s t : State} {ea : Word} {f : Byte → Option Byte} {v w : Byte} (read : s.load .byte ea = .next (v, t))
    (change : f v = some w) (writable : Writable t.midway .byte ea w) :
    ∃ x, Stored t.midway x .byte ea w ∧ s.modify .byte ea f = .next (v, x) := by
  have added : w ||| t.raisedMidway .byte ea = w := by simp
  simpa [added] using modify_of_writable read change (added.symm ▸ writable)

/-- A byte that is read and not changed is not written. -/
theorem modify_of_unchanged {s t : State} {u : AccessUnit} {ea : Word} {f : Byte → Option Byte} {v : Byte}
    (read : s.load u ea = .next (v, t)) (change : f v = none) : s.modify u ea f = .next (v, t) :=
  modify_eq_next.mpr ⟨t, read, .inl ⟨change, rfl⟩⟩

/-! ### 8-bit transfers -/

/-- Settles O10. -/
theorem movRegisters : Obligations.MovRegisters := by
  intro s r imm
  refine ⟨⟨_, rfl, reg_putReg_same s r imm, .putReg s r imm⟩, ⟨_, rfl, reg_putReg_same s .a _, .putReg s .a _⟩,
    ⟨_, rfl, reg_putReg_same s r _, .putReg s r _⟩, _, rfl, ?a, reg_putReg_same (s.putReg .a _) r _,
    (Frame.putReg s .a _).trans (.putReg (s.putReg .a _) r _)⟩
  case a =>
    by_cases same : r = .a
    · subst same
      exact reg_putReg_same _ _ _
    · exact (reg_putReg_other _ (Ne.symm same) _).trans (reg_putReg_same _ _ _)

/-- Settles O11. -/
theorem movLoads : Obligations.MovLoads := by
  intro s saddr sfr disp addr i ea form readable
  have runs : exec i s = s.loadA ea := by
    simp only [List.mem_cons, Prod.mk.injEq, List.not_mem_nil, or_false] at form
    obtain ⟨rfl, rfl⟩ | ⟨rfl, rfl⟩ | ⟨rfl, rfl⟩ | ⟨rfl, rfl⟩ | ⟨rfl, rfl⟩ | ⟨rfl, rfl⟩ | ⟨rfl, rfl⟩ | ⟨rfl, rfl⟩ := form <;> rfl
  obtain ⟨v, t, read⟩ := load_of_readable readable
  have loaded := load_spec read
  refine ⟨v, t, _, loaded, by rw [runs, State.loadA, read, andThen2_next], reg_putReg_same t .a v, ?_⟩
  exact loaded.psw ▸ loaded.pc ▸ Frame.putReg t .a v

/-- Settles O12. -/
theorem movStores : Obligations.MovStores := by
  intro s saddr sfr disp imm addr i ea v form writable
  have runs : exec i s = s.store .byte ea v := by
    simp only [List.mem_cons, Prod.mk.injEq, List.not_mem_nil, or_false] at form
    obtain ⟨rfl, rfl, rfl⟩ | ⟨rfl, rfl, rfl⟩ | ⟨rfl, rfl, rfl⟩ | ⟨rfl, rfl, rfl⟩ | ⟨rfl, rfl, rfl⟩ | ⟨rfl, rfl, rfl⟩ |
      ⟨rfl, rfl, rfl⟩ | ⟨rfl, rfl, rfl⟩ | ⟨rfl, rfl, rfl⟩ | ⟨rfl, rfl, rfl⟩ := form <;> rfl
  exact runs ▸ stored_of_writable writable

/-- Settles O13. -/
theorem movPsw : Obligations.MovPsw := fun s imm =>
  ⟨⟨_, rfl, ((Frame.refl s).thenPsw (pswValue imm)).holding⟩,
    ⟨_, rfl, reg_putReg_same s .a s.psw, (Frame.putReg s .a s.psw).holding⟩,
    ⟨_, rfl, ((Frame.refl s).thenPsw (pswValue (s.reg .a))).holding⟩⟩

/-- Settles O14: the byte read goes to A after A has been written where it was read. -/
theorem xchMemory : Obligations.XchMemory := by
  intro s t saddr sfr disp addr i ea v form read writable
  have runs : exec i s = s.exchangeA ea := by
    simp only [List.mem_cons, Prod.mk.injEq, List.not_mem_nil, or_false] at form
    obtain ⟨rfl, rfl⟩ | ⟨rfl, rfl⟩ | ⟨rfl, rfl⟩ | ⟨rfl, rfl⟩ | ⟨rfl, rfl⟩ | ⟨rfl, rfl⟩ | ⟨rfl, rfl⟩ | ⟨rfl, rfl⟩ := form <;> rfl
  obtain ⟨u, stored, modified⟩ := modify_byte (f := fun _ => some (s.reg .a)) read rfl writable
  exact ⟨u, _, stored, by rw [runs, State.exchangeA, modified, andThen2_next], Memory.get_put_same _ _ _, .putRegOf u s.psw .a v⟩

/-! ### 16-bit transfers -/

/-- Settles O15. -/
theorem movwRegisters : Obligations.MovwRegisters := by
  intro s rp word
  refine ⟨⟨_, rfl, pair_putPair_same s rp word, .putPair s rp word⟩, ⟨_, rfl, pair_putPair_same s .ax _, .putPair s .ax _⟩,
    ⟨_, rfl, pair_putPair_same s rp _, .putPair s rp _⟩, _, rfl, ?ax, pair_putPair_same (s.putPair .ax _) rp _,
    (Frame.putPair s .ax _).trans (.putPair (s.putPair .ax _) rp _)⟩
  case ax =>
    by_cases same : rp = .ax
    · subst same
      exact pair_putPair_same _ _ _
    · exact (pair_putPair_other _ (Ne.symm same) _).trans (pair_putPair_same _ _ _)

/-- AX loaded from memory or a register. -/
theorem loadAx_frame {s t : State} {ea v : Word} (read : s.loadWord ea = .next (v, t)) :
    ∃ w, s.loadAx ea = .next w ∧ w.pair .ax = v ∧ Frame t w (pairAddrs s.psw .ax) s.psw s.pc := by
  obtain ⟨-, psw, pc⟩ := loadWord_keeps read
  exact ⟨_, by rw [State.loadAx, read, andThen2_next], pair_putPair_same t .ax v, psw ▸ pc ▸ Frame.putPair t .ax v⟩

/-- Settles O16. -/
theorem movwLoads : Obligations.MovwLoads := by
  intro s saddr sfr addr i ea form
  have runs : exec i s = s.loadAx ea := by
    simp only [List.mem_cons, Prod.mk.injEq, List.not_mem_nil, or_false] at form
    obtain ⟨rfl, rfl⟩ | ⟨rfl, rfl⟩ | ⟨rfl, rfl⟩ := form <;> rfl
  rw [runs]
  exact ⟨fun even low high => loadAx_frame (loadWord_ram even low high),
    fun v t read => ⟨(loadWord_keeps read).1, loadAx_frame read⟩⟩

/-- Settles O17. -/
theorem movwStores : Obligations.MovwStores := by
  intro s saddr sfr addr word i ea v form
  have runs : exec i s = s.storeWord ea v := by
    simp only [List.mem_cons, Prod.mk.injEq, List.not_mem_nil, or_false] at form
    obtain ⟨rfl, rfl, rfl⟩ | ⟨rfl, rfl, rfl⟩ | ⟨rfl, rfl, rfl⟩ | ⟨rfl, rfl, rfl⟩ | ⟨rfl, rfl, rfl⟩ := form <;> rfl
  rw [runs]
  exact ⟨storeWord_ram_frame, fun t write => ⟨write, storeWord_keeps write⟩⟩

/-- Settles O18. -/
theorem movwSp : Obligations.MovwSp := fun s word =>
  ⟨⟨_, rfl, (Frame.refl s).thenSp word⟩, ⟨_, rfl, (Frame.refl s).thenSp (s.pair .ax)⟩,
    ⟨_, rfl, pair_putPair_same s .ax s.sp, .putPair s .ax s.sp⟩⟩

end Sys2Proof.Machine
end

section
/-! SUPPORT. Results and flags of the 8-bit operations, and their operand forms (R230 to R239). -/

namespace Sys2Proof.Machine

/-! ### Results over the integers (R231) -/

/-- A carry is 0 or 1. -/
theorem carry_le (c : Bool) : carry c ≤ 1 := by cases c <;> decide

/-- The sum with a carry, as integers. -/
theorem add8_exact (a b : Byte) (c : Bool) {k : Int} (hk : k = (carry c : Nat)) :
    ((add8 a b c).value.toNat : Int) = (a.toNat + b.toNat + k) % 256 ∧
      (add8 a b c).cy = some (decide (255 < (a.toNat : Int) + b.toNat + k)) ∧
      (add8 a b c).ac = some (decide (15 < (a.toNat : Int) % 16 + b.toNat % 16 + k)) := by
  subst hk
  refine ⟨?_, congrArg some (decide_eq_decide.mpr ?_), congrArg some (decide_eq_decide.mpr ?_)⟩
  · simp only [add8, BitVec.toNat_ofNat]
    omega
  · omega
  · omega

/-- The difference with a borrow, as integers. -/
theorem sub8_exact (a b : Byte) (c : Bool) {k : Int} (hk : k = (carry c : Nat)) :
    ((sub8 a b c).value.toNat : Int) = (a.toNat - b.toNat - k) % 256 ∧
      (sub8 a b c).cy = some (decide ((a.toNat : Int) - b.toNat - k < 0)) ∧
      (sub8 a b c).ac = some (decide ((a.toNat : Int) % 16 - b.toNat % 16 - k < 0)) := by
  have := carry_le c
  subst hk
  refine ⟨?_, congrArg some (decide_eq_decide.mpr ?_), congrArg some (decide_eq_decide.mpr ?_)⟩
  · simp only [sub8, BitVec.toNat_sub, BitVec.toNat_ofNat]
    omega
  · omega
  · omega

/-- Settles O19. -/
theorem aluResults : Obligations.AluResults := by
  intro a b c
  have inCarry : (if c then 1 else 0 : Int) = (carry c : Nat) := by cases c <;> rfl
  refine ⟨fun op k row => ?sum, fun op k row => ?difference, fun op v row => ?logic⟩
  case sum =>
    simp only [List.mem_cons, Prod.mk.injEq, List.not_mem_nil, or_false] at row
    obtain ⟨rfl, rfl⟩ | ⟨rfl, rfl⟩ := row
    · exact add8_exact a b false rfl
    · exact add8_exact a b c inCarry
  case difference =>
    simp only [List.mem_cons, Prod.mk.injEq, List.not_mem_nil, or_false] at row
    obtain ⟨rfl, rfl⟩ | ⟨rfl, rfl⟩ | ⟨rfl, rfl⟩ := row
    · exact sub8_exact a b false rfl
    · exact sub8_exact a b false rfl
    · exact sub8_exact a b c inCarry
  case logic =>
    simp only [List.mem_cons, Prod.mk.injEq, List.not_mem_nil, or_false] at row
    obtain ⟨rfl, rfl⟩ | ⟨rfl, rfl⟩ | ⟨rfl, rfl⟩ := row <;> rfl

/-! ### Flags in PSW (R27, R28) -/

/-- A bit that is written where there is a value for it. -/
theorem getLsbD_setBitIf (x : Byte) {n k : Nat} (hk : k < 8) (v : Option Bool) :
    (setBitIf x n v).getLsbD k = if k = n then v.getD (x.getLsbD k) else x.getLsbD k := by
  cases v with
  | none => simp [setBitIf]
  | some b => exact getLsbD_setBit x hk b

/-- The bits of PSW after the flags of an operation. -/
theorem getLsbD_flagsInto (psw : Byte) (z : Bool) (ac cy : Option Bool) {k : Nat} (hk : k < 8) :
    (flagsInto psw z ac cy).getLsbD k =
      ((if k = 0 then cy.getD (psw.getLsbD 0) else if k = 4 then ac.getD (psw.getLsbD 4) else if k = 6 then z
        else psw.getLsbD k) && k != 2) := by
  rw [flagsInto, getLsbD_pswValue _ hk, getLsbD_setBitIf _ hk, getLsbD_setBitIf _ hk, getLsbD_setBit _ hk]
  by_cases zero : k = 0
  · subst zero
    simp
  · by_cases four : k = 4
    · subst four
      simp
    · simp [zero, four]

/-- Settles O20. -/
theorem flagPlaces : Obligations.FlagPlaces := by
  intro psw z ac cy
  refine ⟨?z, ?ac, ?cy, flagsInto_bit2 psw z ac cy, ?ie, ?rbs1, ?rbs0, ?isp⟩
  all_goals
    rw [getLsbD_flagsInto _ _ _ _ (by decide)]
    simp

/-! ### The operand forms -/

/-- An operation on a register: the result unless it is CMP, the flags, and nothing else. -/
theorem aluReg_frame (s : State) (op : AluOp) (r : Reg8) (b : Byte) :
    let o := aluRun op (s.reg r) b s.cy
    (s.aluReg op r b).mem.get (regAddr s.psw r) = (if op = .cmp then s.reg r else o.value) ∧
      Frame s (s.aluReg op r b) [regAddr s.psw r] (flagsInto s.psw (o.value == 0) o.ac o.cy) s.pc := by
  by_cases cmp : op = .cmp
  · subst cmp
    exact ⟨rfl, ((Frame.refl s).thenPsw _).mono (List.nil_subset _)⟩
  · have writes : aluWrites op = true := by simp [aluWrites, cmp]
    simp only [State.aluReg, writes, cmp, if_true, if_false]
    exact ⟨Memory.get_put_same _ _ _, (Frame.putReg s r _).thenPsw _⟩

/-- Settles O21. -/
theorem aluRegisters : Obligations.AluRegisters := by
  intro s op r r' dest imm b i form
  have runs : exec i s = .next (s.aluReg op dest b) := by
    simp only [List.mem_cons, Prod.mk.injEq, List.not_mem_nil, or_false] at form
    obtain ⟨rfl, rfl, rfl⟩ | ⟨rfl, rfl, rfl⟩ | ⟨rfl, rfl, rfl⟩ := form <;> cases op <;> rfl
  exact ⟨_, runs, aluReg_frame s op dest b⟩

/-- Settles O22. -/
theorem aluLoads : Obligations.AluLoads := by
  intro s t op saddr disp addr i ea v form read
  have runs : exec i s = s.aluFromMem op ea := by
    simp only [List.mem_cons, Prod.mk.injEq, List.not_mem_nil, or_false] at form
    obtain ⟨rfl, rfl⟩ | ⟨rfl, rfl⟩ | ⟨rfl, rfl⟩ | ⟨rfl, rfl⟩ | ⟨rfl, rfl⟩ | ⟨rfl, rfl⟩ := form <;> cases op <;> rfl
  have loaded := load_spec read
  have done : exec i s = .next (t.aluA op v) := by rw [runs, State.aluFromMem, read, andThen2_next]
  have carry : t.cy = s.cy := by rw [State.cy, loaded.psw, State.cy]
  have frame := aluReg_frame t op .a v
  rw [loaded.reg, carry, loaded.psw, loaded.pc] at frame
  exact ⟨_, loaded, done, frame⟩

/-- PC after a byte has been read and written back is PC before. -/
theorem Stored.pc_of_loaded {s t x : State} {u u' : AccessUnit} {ea ea' : Word} {v w : Byte} (st : Stored t.midway x u ea w)
    (l : Loaded s t u' ea' v) : x.pc = s.pc := by
  rw [st.pc, midway_pc, l.pc]

/-- Settles O23: the flags come from the operand before the write, and go to PSW after it. -/
theorem aluStores : Obligations.AluStores := by
  intro s t op saddr imm v read
  have runs : exec (aluSaddrImm op saddr imm) s = s.aluToMem op (saddrEA saddr) imm := by cases op <;> rfl
  have loaded := load_spec read
  refine ⟨fun ne writable => ?_, fun cmp => ?_⟩
  · have writes : (if aluWrites op then some (aluRun op v imm s.cy).value else none) = some (aluRun op v imm s.cy).value := by
      simp [aluWrites, ne]
    obtain ⟨u, stored, modified⟩ := modify_byte read
      (f := fun v => if aluWrites op then some (aluRun op v imm s.cy).value else none) writes writable
    refine ⟨u, _, stored, by rw [runs, State.aluToMem, modified, andThen2_next], ?_⟩
    exact ((Frame.refl u).thenPsw _).cast rfl (stored.pc_of_loaded loaded).symm
  · subst cmp
    have modified : s.modify .byte (saddrEA saddr) (fun _ => none) = .next (v, t) := modify_of_unchanged read rfl
    refine ⟨_, by rw [runs, State.aluToMem]; exact congrArg (andThen2 · _) modified, ?_⟩
    exact loaded.psw ▸ loaded.pc ▸ (Frame.refl t).thenPsw _

end Sys2Proof.Machine
end

section
/-! SUPPORT. 16-bit operations, multiplication, division, increment, decrement, rotates and decimal adjustment (R250 to R277). -/

namespace Sys2Proof.Machine

/-! ### The bank after a change of flags -/

/-- Registers lie where they lay while RBS1 and RBS0 stay (R21). -/
theorem regAddr_congr {p q : Byte} (five : p.getLsbD 5 = q.getLsbD 5) (three : p.getLsbD 3 = q.getLsbD 3) (r : Reg8) :
    regAddr p r = regAddr q r := by
  rw [regAddr, regAddr, bankOf, bankOf, five, three]

/-- The flags of an operation leave the bank. -/
@[simp] theorem regAddr_flagsInto (p : Byte) (z : Bool) (ac cy : Option Bool) (r : Reg8) :
    regAddr (flagsInto p z ac cy) r = regAddr p r := by
  apply regAddr_congr
  all_goals
    rw [getLsbD_flagsInto _ _ _ _ (by decide)]
    simp

/-- A write of the carry leaves the bank. -/
@[simp] theorem regAddr_putCy (p : Byte) (c : Bool) (r : Reg8) : regAddr (pswValue (setBit p 0 c)) r = regAddr p r := by
  apply regAddr_congr
  all_goals
    rw [getLsbD_pswValue _ (by decide), getLsbD_setBit _ (by decide)]
    simp

@[simp] theorem reg_putFlags (s : State) (o : AluOut) (r : Reg8) : (s.putFlags o).reg r = s.reg r := by simp [State.reg]
@[simp] theorem reg_putCy (s : State) (c : Bool) (r : Reg8) : (s.putCy c).reg r = s.reg r := by simp [State.reg]
@[simp] theorem reg_putFlags16 (s : State) (w : Word) (c : Bool) (r : Reg8) : (s.putFlags16 w c).reg r = s.reg r := by
  simp [State.reg, State.putFlags16]
@[simp] theorem pair_putFlags16 (s : State) (w : Word) (c : Bool) (rp : RegPair) :
    (s.putFlags16 w c).pair rp = s.pair rp := by simp [State.pair]

/-! ### 16-bit operations -/

/-- Flags of a 16-bit operation after another change; a draw is counted. -/
theorem Frame.thenFlags16 {s t : State} {xs : List Nat} {psw : Byte} {pc : Word} (h : Frame s t xs psw pc) (w : Word)
    (c : Bool) :
    Frame { s with draws := (t.putFlags16 w c).draws } (t.putFlags16 w c) xs
      (flagsInto psw (w == 0) (some (Config.acAfter16 t.draws)) (some c)) pc :=
  ⟨h.mem, by rw [State.putFlags16, h.psw], h.pc, h.sp, h.hold, rfl, h.cpuClocks, h.agenda, h.between, h.dev⟩

/-- A difference is 0 where both are equal. -/
theorem diff_eq_zero {n : Nat} {a b : BitVec n} : a - b = 0 ↔ a = b := by
  rw [BitVec.sub_eq_iff_eq_add]
  exact ⟨fun e => e.trans (BitVec.zero_add b), fun e => e.trans (BitVec.zero_add b).symm⟩

/-- Settles O24. -/
theorem wordOperations : Obligations.WordOperations := by
  intro s word
  refine ⟨⟨_, _, rfl, by simp, (Frame.putPair s .ax _).thenFlags16 _ _⟩,
    ⟨_, _, rfl, by simp, (Frame.putPair s .ax _).thenFlags16 _ _⟩, _, Config.acAfter16 s.draws, rfl, ?cmpw⟩
  case cmpw =>
    have zero : decide (s.pair .ax = word) = (s.pair .ax - word == 0) := by
      rw [Bool.beq_eq_decide_eq, decide_eq_decide]
      exact diff_eq_zero.symm
    rw [zero]
    exact (Frame.refl s).thenFlags16 _ _

/-! ### Multiplication and division (R253, R254) -/

/-- The exact product of two bytes. -/
theorem toNat_zext_mul (a b : Byte) : (zext a * zext b).toNat = a.toNat * b.toNat := by
  have below : a.toNat * b.toNat < 256 * 256 := Nat.mul_lt_mul'' a.isLt b.isLt
  have ha := a.isLt
  have hb := b.isLt
  simp only [zext, BitVec.zeroExtend, BitVec.toNat_mul, BitVec.toNat_setWidth]
  rw [Nat.mod_eq_of_lt (a := a.toNat) (by omega), Nat.mod_eq_of_lt (a := b.toNat) (by omega), Nat.mod_eq_of_lt below]

/-- Quotient and remainder by a divisor that is not 0. -/
theorem divide_exact (n : Word) {d : Byte} (ne : d ≠ 0) :
    (divide n d).1.toNat * d.toNat + (divide n d).2.toNat = n.toNat ∧ (divide n d).2.toNat < d.toNat := by
  have pos : 0 < d.toNat := Nat.pos_of_ne_zero fun e => ne (BitVec.eq_of_toNat_eq e)
  have remainder := Nat.mod_lt n.toNat pos
  have quotient := Nat.div_le_self n.toNat d.toNat
  have := n.isLt
  have := d.isLt
  simp only [divide, ne, if_false, BitVec.toNat_ofNat]
  rw [Nat.mod_eq_of_lt (a := n.toNat / d.toNat) (by omega), Nat.mod_eq_of_lt (a := n.toNat % d.toNat) (by omega), Nat.mul_comm]
  exact ⟨Nat.div_add_mod _ _, remainder⟩

/-- A pair that does not hold a register is as before a write of that register. -/
theorem pair_putReg_other (s : State) {rp : RegPair} {r : Reg8} (low : lowReg rp ≠ r) (high : highReg rp ≠ r) (v : Byte) :
    (s.putReg r v).pair rp = s.pair rp := by
  rw [State.pair, reg_putReg_other s high, reg_putReg_other s low, State.pair]

/-- Settles O25. -/
theorem multiplyDivide : Obligations.MultiplyDivide := by
  intro s
  refine ⟨⟨_, rfl, by rw [pair_putPair_same, toNat_zext_mul], .putPair s .ax _⟩, _, rfl, fun ne => ?exact, fun zero => ?zero, ?frame⟩
  case exact =>
    rw [pair_putReg_other _ (by decide) (by decide), pair_putPair_same, reg_putReg_same]
    exact divide_exact _ ne
  case zero =>
    rw [pair_putReg_other _ (by decide) (by decide), pair_putPair_same, reg_putReg_same, divide, if_pos zero]
    exact ⟨rfl, lo_join _ _⟩
  case frame =>
    refine ((Frame.putPair s .ax _).trans (.putReg (s.putPair .ax _) .c _)).mono ?_
    exact List.append_subset.mpr ⟨List.subset_cons_self _ _, List.cons_subset_cons _ (List.nil_subset _)⟩

/-! ### Increment and decrement (R255 to R258) -/

/-- The low digit of a byte, by its mask. -/
theorem low_digit_eq_iff (a : Byte) {n : Nat} (h : n < 16) : (a &&& (0x0F : Byte) == BitVec.ofNat 8 n) = decide (a.toNat % 16 = n) := by
  have digit : (a &&& (0x0F : Byte)).toNat = a.toNat % 16 := by
    rw [BitVec.toNat_and]
    exact Nat.and_two_pow_sub_one_eq_mod _ 4
  rw [Bool.beq_eq_decide_eq, decide_eq_decide, ← BitVec.toNat_inj, digit, BitVec.toNat_ofNat, Nat.mod_eq_of_lt (a := n) (by omega)]

/-- AC of an increment: the low digit is FH. -/
theorem inc8_ac (a : Byte) : (inc8 a).ac = some (a &&& (0x0F : Byte) == 0x0F) :=
  congrArg some (low_digit_eq_iff a (n := 15) (by decide)).symm

/-- AC of a decrement: the low digit is 0. -/
theorem dec8_ac (a : Byte) : (dec8 a).ac = some (a &&& (0x0F : Byte) == 0) :=
  congrArg some (low_digit_eq_iff a (n := 0) (by decide)).symm

/-- A register written with its flags. -/
theorem putReg_putFlags_frame (s : State) (r : Reg8) (o : AluOut) :
    ((s.putReg r o.value).putFlags o).mem.get (regAddr s.psw r) = o.value ∧
      Frame s ((s.putReg r o.value).putFlags o) [regAddr s.psw r] (flagsInto s.psw (o.value == 0) o.ac o.cy) s.pc :=
  ⟨Memory.get_put_same _ _ _, (Frame.putReg s r o.value).thenPsw _⟩

/-- Settles O26. -/
theorem incDecRegister : Obligations.IncDecRegister := by
  intro s r rp
  rw [← inc8_ac, ← dec8_ac]
  exact ⟨⟨_, rfl, putReg_putFlags_frame s r (inc8 (s.reg r))⟩, ⟨_, rfl, putReg_putFlags_frame s r (dec8 (s.reg r))⟩,
    ⟨_, rfl, pair_putPair_same s rp _, .putPair s rp _⟩, ⟨_, rfl, pair_putPair_same s rp _, .putPair s rp _⟩⟩

/-- A byte counted in memory: stored, then its flags. -/
theorem countMem_frame {s t : State} {ea : Word} {v : Byte} {f : Byte → AluOut} (read : s.load .byte ea = .next (v, t))
    (writable : Writable t.midway .byte ea (f v).value) :
    ∃ u w, Stored t.midway u .byte ea (f v).value ∧ s.countMem ea f = .next w ∧
      Frame u w [] (flagsInto u.psw ((f v).value == 0) (f v).ac (f v).cy) s.pc := by
  obtain ⟨u, stored, modified⟩ := modify_byte (f := fun v => some (f v).value) read rfl writable
  refine ⟨u, _, stored, by rw [State.countMem, modified, andThen2_next], ?_⟩
  exact ((Frame.refl u).thenPsw _).cast rfl (stored.pc_of_loaded (load_spec read)).symm

/-- Settles O27. -/
theorem incDecMemory : Obligations.IncDecMemory := by
  intro s t saddr v read
  rw [← inc8_ac, ← dec8_ac]
  exact ⟨fun writable => countMem_frame (f := inc8) read writable, fun writable => countMem_frame (f := dec8) read writable⟩

/-! ### Rotates (R270 to R275) -/

/-- The bits of a byte rotated right. -/
theorem getLsbD_rotateRight (a : Byte) (b : Bool) :
    (rotateRight a b).getLsbD 7 = b ∧ ∀ k < 7, (rotateRight a b).getLsbD k = a.getLsbD (k + 1) := by
  refine ⟨by rw [rotateRight, getLsbD_setBit _ (by decide), if_pos rfl], fun k hk => ?_⟩
  rw [rotateRight, getLsbD_setBit _ (by omega), if_neg (by omega), BitVec.getLsbD_ushiftRight, Nat.add_comm]

/-- The bits of a byte rotated left. -/
theorem getLsbD_rotateLeft (a : Byte) (b : Bool) :
    (rotateLeft a b).getLsbD 0 = b ∧ ∀ k < 7, (rotateLeft a b).getLsbD (k + 1) = a.getLsbD k := by
  refine ⟨by rw [rotateLeft, getLsbD_setBit _ (by decide), if_pos rfl], fun k hk => ?_⟩
  rw [rotateLeft, getLsbD_setBit _ (by omega), if_neg (by omega), BitVec.getLsbD_shiftLeft]
  simp [show k + 1 < 8 by omega]

/-- Settles O28. -/
theorem rotates : Obligations.Rotates := by
  intro s
  have frame (v : Byte) (c : Bool) :
      Frame s ((s.putReg .a v).putCy c) [regAddr s.psw .a] (pswValue (setBit s.psw 0 c)) s.pc := (Frame.putReg s .a v).thenPsw _
  have result (v : Byte) (c : Bool) : ((s.putReg .a v).putCy c).reg .a = v := by simp
  refine ⟨fun i top row => ?right, fun i low row => ?left⟩
  case right =>
    have runs : exec i s = .next ((s.putReg .a (rotateRight (s.reg .a) top)).putCy ((s.reg .a).getLsbD 0)) := by
      simp only [List.mem_cons, Prod.mk.injEq, List.not_mem_nil, or_false] at row
      obtain ⟨rfl, rfl⟩ | ⟨rfl, rfl⟩ := row <;> rfl
    refine ⟨_, runs, ?_⟩
    rw [result]
    exact ⟨(getLsbD_rotateRight _ _).1, (getLsbD_rotateRight _ _).2, frame _ _⟩
  case left =>
    have runs : exec i s = .next ((s.putReg .a (rotateLeft (s.reg .a) low)).putCy ((s.reg .a).getLsbD 7)) := by
      simp only [List.mem_cons, Prod.mk.injEq, List.not_mem_nil, or_false] at row
      obtain ⟨rfl, rfl⟩ | ⟨rfl, rfl⟩ := row <;> rfl
    refine ⟨_, runs, ?_⟩
    rw [result]
    exact ⟨(getLsbD_rotateLeft _ _).1, (getLsbD_rotateLeft _ _).2, frame _ _⟩

/-- A byte made of a digit shifted up and a low digit. -/
theorem toNat_digits (h l : Byte) (low : l.toNat < 16) : ((h <<< 4) ||| l).toNat = h.toNat % 16 * 16 + l.toNat := by
  have shifted : (h <<< 4).toNat = (h.toNat % 16) <<< 4 := by
    rw [BitVec.toNat_shiftLeft, Nat.shiftLeft_eq, Nat.shiftLeft_eq]
    omega
  rw [BitVec.toNat_or, shifted, ← Nat.shiftLeft_add_eq_or_of_lt low, Nat.shiftLeft_eq]

/-- The high digit of a byte. -/
theorem toNat_high_digit (m : Byte) : (m >>> 4).toNat = m.toNat / 16 := by
  rw [BitVec.toNat_ushiftRight, Nat.shiftRight_eq_div_pow]

/-- The low digit of a byte. -/
theorem toNat_low_digit (m : Byte) : (m &&& (0x0F : Byte)).toNat = m.toNat % 16 := by
  rw [BitVec.toNat_and]
  exact Nat.and_two_pow_sub_one_eq_mod _ 4

/-- The high digit in its place is the high digit shifted up. -/
theorem and_f0_eq (a : Byte) : a &&& (0xF0 : Byte) = (a >>> 4) <<< 4 := by
  apply BitVec.eq_of_getLsbD_eq
  intro k hk
  match k, hk with
  | 0, _ | 1, _ | 2, _ | 3, _ | 4, _ | 5, _ | 6, _ | 7, _ => simp

/-- A byte whose high digit is kept and whose low digit is replaced. -/
theorem toNat_replace_low (a l : Byte) (low : l.toNat < 16) : ((a &&& (0xF0 : Byte)) ||| l).toNat = a.toNat / 16 * 16 + l.toNat := by
  rw [and_f0_eq, toNat_digits _ _ low, toNat_high_digit]
  have := a.isLt
  omega

/-- A digit rotate: the byte is stored, then A. -/
theorem rotateDigits_frame {s t : State} {m v : Byte} {f : Byte → Byte → Byte} {g : Byte → Byte → Byte → Byte}
    (read : s.load .byte s.hlEA = .next (m, t)) (value : f (s.reg .a) m = v) (writable : Writable t.midway .byte s.hlEA v) :
    ∃ u w, Stored t.midway u .byte s.hlEA v ∧ s.rotateDigits f g = .next w ∧
      w.mem.get (regAddr s.psw .a) = g (s.reg .a) (u.mem.get (regAddr s.psw .a)) m ∧
      Frame u w [regAddr s.psw .a] u.psw u.pc := by
  obtain ⟨u, stored, modified⟩ :=
    modify_byte (f := fun m => some (f (s.reg .a) m)) read (congrArg some value) writable
  exact ⟨u, _, stored, rotateDigits_eq_next.mpr ⟨m, u, modified, rfl⟩, Memory.get_put_same _ _ _, .putRegOf u s.psw .a _⟩

/-- Settles O29. -/
theorem digitRotates : Obligations.DigitRotates := by
  intro s t m read
  have highDigit : (m >>> 4).toNat < 16 := by
    rw [toNat_high_digit]
    have := m.isLt
    omega
  have lowDigit (b : Byte) : (b &&& (0x0F : Byte)).toNat < 16 := by
    rw [toNat_low_digit]
    omega
  refine ⟨fun v hv writable => ?right, fun v hv writable => ?left⟩
  case right =>
    have value : (s.reg .a <<< 4) ||| (m >>> 4) = v := by
      rw [hv, ← toNat_high_digit, ← toNat_digits _ _ highDigit, BitVec.ofNat_toNat, BitVec.setWidth_eq]
    obtain ⟨u, w, stored, runs, a, frame⟩ := rotateDigits_frame (f := fun a m => (a <<< 4) ||| (m >>> 4))
      (g := fun a _ m => (a &&& (0xF0 : Byte)) ||| (m &&& (0x0F : Byte))) read value writable
    refine ⟨u, w, stored, runs, ?_, frame⟩
    rw [a, toNat_replace_low _ _ (lowDigit m), toNat_low_digit]
  case left =>
    have value : (m <<< 4) ||| (s.reg .a &&& (0x0F : Byte)) = v := by
      rw [hv, ← toNat_low_digit (s.reg .a), ← toNat_digits _ _ (lowDigit _), BitVec.ofNat_toNat, BitVec.setWidth_eq]
    obtain ⟨u, w, stored, runs, a, frame⟩ := rotateDigits_frame (f := fun a m => (m <<< 4) ||| (a &&& (0x0F : Byte)))
      (g := fun _ a m => (a &&& (0xF0 : Byte)) ||| (m >>> 4)) read value writable
    refine ⟨u, w, stored, runs, ?_, frame⟩
    rw [a, toNat_replace_low _ _ highDigit, toNat_high_digit]

/-! ### Decimal adjustment (R276, R277) -/

/-- A decimal adjustment writes A and the flags. -/
theorem adjustA_frame (s : State) {o : AluOut} {v : Byte} {ac cy : Bool} (h : o = ⟨v, some ac, some cy⟩) :
    (s.adjustA o).mem.get (regAddr s.psw .a) = v ∧
      Frame s (s.adjustA o) [regAddr s.psw .a] (flagsInto s.psw (v == 0) (some ac) (some cy)) s.pc :=
  h ▸ putReg_putFlags_frame s .a _

/-- Settles O30. -/
theorem decimalAdjust : Obligations.DecimalAdjust := by
  intro s
  refine ⟨fun row d cy ac rows holds => ⟨_, rfl, adjustA_frame s ?add⟩, fun ac cy d rows hac hcy => ⟨_, rfl, adjustA_frame s ?sub⟩⟩
  case add =>
    simp only [List.mem_cons, Prod.mk.injEq, List.not_mem_nil, or_false] at rows
    obtain ⟨rfl, rfl, rfl, rfl⟩ | ⟨rfl, rfl, rfl, rfl⟩ | ⟨rfl, rfl, rfl, rfl⟩ | ⟨rfl, rfl, rfl, rfl⟩ | ⟨rfl, rfl, rfl, rfl⟩ |
      ⟨rfl, rfl, rfl, rfl⟩ := rows
    · obtain ⟨l, ac, h, cy⟩ := holds
      simp [adjustAdd, l, ac, h, cy]
    · obtain ⟨l, ac, h | cy⟩ := holds
      · simp [adjustAdd, l, ac, Nat.not_le.mpr h]
      · simp [adjustAdd, l, ac, cy]
    · obtain ⟨l, ac, h, cy⟩ := holds
      simp [adjustAdd, Nat.not_le.mpr l, ac, h, cy]
    · obtain ⟨l, ac, h | cy⟩ := holds
      · simp [adjustAdd, Nat.not_le.mpr l, ac, Nat.not_lt.mpr h]
      · simp [adjustAdd, Nat.not_le.mpr l, ac, cy]
    · obtain ⟨ac, h, cy⟩ := holds
      simp [adjustAdd, ac, h, cy]
    · obtain ⟨ac, h | cy⟩ := holds
      · simp [adjustAdd, ac, Nat.not_le.mpr h]
      · simp [adjustAdd, ac, cy]
  case sub =>
    rw [hac, hcy]
    simp only [List.mem_cons, Prod.mk.injEq, List.not_mem_nil, or_false] at rows
    obtain ⟨rfl, rfl, rfl⟩ | ⟨rfl, rfl, rfl⟩ | ⟨rfl, rfl, rfl⟩ | ⟨rfl, rfl, rfl⟩ := rows
    all_goals simp [adjustSub, BitVec.sub_sub]

end Sys2Proof.Machine
end

section
/-! SUPPORT. Bit manipulation (R285 to R295). -/

namespace Sys2Proof.Machine

/-! ### Bits in memory -/

/-- A bit read from memory. -/
theorem loadBit_of_load {s t : State} {ea : Word} {v : Byte} (read : s.load .bit ea = .next (v, t)) (n : BitNo) :
    s.loadBit ea n = .next (v.getLsbD n.val, t) := by
  rw [State.loadBit, read, andThen2_next]

/-- Settles O31: CY of the state after the read is CY before it. -/
theorem bitLoads : Obligations.BitLoads := by
  intro s t saddr sfr n v i ea f form read
  have runs : exec i s = andThen2 (s.loadBit ea n) fun b t => .next (t.putCy (f t.cy b)) := by
    simp only [List.mem_cons, Prod.mk.injEq, List.not_mem_nil, or_false] at form
    obtain ⟨rfl, rfl, rfl⟩ | ⟨rfl, rfl, rfl⟩ | ⟨rfl, rfl, rfl⟩ | ⟨rfl, rfl, rfl⟩ | ⟨rfl, rfl, rfl⟩ | ⟨rfl, rfl, rfl⟩ |
      ⟨rfl, rfl, rfl⟩ | ⟨rfl, rfl, rfl⟩ | ⟨rfl, rfl, rfl⟩ | ⟨rfl, rfl, rfl⟩ | ⟨rfl, rfl, rfl⟩ | ⟨rfl, rfl, rfl⟩ := form <;> rfl
  have loaded := load_spec read
  refine ⟨_, loaded, by rw [runs, loadBit_of_load read, andThen2_next], ?_⟩
  have frame : Frame t (t.putCy (f t.cy (v.getLsbD n.val))) [] _ t.pc := (Frame.refl t).thenPsw _
  simpa only [State.cy, loaded.psw, loaded.pc] using frame

/-- A bit of the byte at an address written: the whole byte is written back. -/
theorem storeBit_of_writable {s t : State} {ea : Word} {v : Byte} {n : BitNo} {b : Bool} (read : s.load .bit ea = .next (v, t))
    (writable : Writable t.midway .bit ea (setBit v n.val b ||| t.raisedMidway .bit ea)) :
    ∃ w, s.storeBit ea n b = .next w ∧ Stored t.midway w .bit ea (setBit v n.val b ||| t.raisedMidway .bit ea) := by
  obtain ⟨w, stored, modified⟩ := modify_of_writable (f := fun v => some (setBit v n.val b)) read rfl writable
  exact ⟨w, by rw [State.storeBit, modified, andThen2_next], stored⟩

/-- One move in the middle of an instruction. -/
theorem midway_of_between {s : State} {m : AgentMove} (h : s.between = [m]) :
    s.midway = { s with dev := s.dev.move m, between := [] } := by
  simp [State.midway, h]

/-- The request flags that a move in the middle raises, bit by bit. -/
theorem getLsbD_raisedMidway {s : State} {ea : Word} {r : Sfr} (addr : ea.toNat = r.addr) (low : 0xFFE0 ≤ ea.toNat)
    (high : ea.toNat ≤ 0xFFE3) {j : Nat} (hj : j < 8) :
    (s.raisedMidway .bit ea).getLsbD j = ((s.midway.dev.rd r).getLsbD j && !(s.dev.rd r).getLsbD j) := by
  have raised : s.raisedMidway .bit ea = s.midway.dev.rd r &&& ~~~s.dev.rd r := by
    rw [addr] at low high
    simp [State.raisedMidway, Devices.rd, addr, low, high]
  rw [raised, BitVec.getLsbD_and, BitVec.getLsbD_not, decide_eq_true hj, Bool.true_and]

/-- Settles O33. -/
theorem bitStores : Obligations.BitStores := by
  intro s t saddr sfr n v i ea b
  refine ⟨fun form read writable => ?write, fun none => ⟨midway_nil none, raisedMidway_nil none _ _⟩,
    fun m k r one row => ⟨midway_of_between one, fun j hj => ?raised⟩⟩
  case write =>
    have runs : exec i s = s.storeBit ea n b := by
      simp only [List.mem_cons, Prod.mk.injEq, List.not_mem_nil, or_false] at form
      obtain ⟨rfl, rfl, rfl⟩ | ⟨rfl, rfl, rfl⟩ | ⟨rfl, rfl, rfl⟩ | ⟨rfl, rfl, rfl⟩ | ⟨rfl, rfl, rfl⟩ | ⟨rfl, rfl, rfl⟩ |
        ⟨rfl, rfl, rfl⟩ | ⟨rfl, rfl, rfl⟩ | ⟨rfl, rfl, rfl⟩ := form <;> rfl
    obtain ⟨w, write, stored⟩ := storeBit_of_writable read writable
    exact ⟨w, load_spec read, runs.trans write, stored⟩
  case raised =>
    have moved : (s.dev.move m).rd r = s.midway.dev.rd r := by rw [midway_of_between one]
    rw [moved]
    simp only [List.mem_cons, Prod.mk.injEq, List.not_mem_nil, or_false] at row
    obtain ⟨rfl, rfl⟩ | ⟨rfl, rfl⟩ | ⟨rfl, rfl⟩ | ⟨rfl, rfl⟩ := row <;>
      exact getLsbD_raisedMidway (by decide) (by decide) (by decide) hj

/-! ### Bits of A, PSW and CY -/

/-- A write of the carry changes PSW only. -/
theorem putCy_frame (s : State) (b : Bool) : Frame s (s.putCy b) [] (pswValue (setBit s.psw 0 b)) s.pc :=
  (Frame.refl s).thenPsw _

/-- Settles O32. -/
theorem carryOperations : Obligations.CarryOperations := by
  intro s n i b
  refine ⟨fun row => ?plain, fun row => ?holds⟩
  case plain =>
    have runs : exec i s = .next (s.putCy b) := by
      simp only [List.mem_cons, Prod.mk.injEq, List.not_mem_nil, or_false] at row
      obtain ⟨rfl, rfl⟩ | ⟨rfl, rfl⟩ | ⟨rfl, rfl⟩ | ⟨rfl, rfl⟩ | ⟨rfl, rfl⟩ | ⟨rfl, rfl⟩ | ⟨rfl, rfl⟩ := row <;> rfl
    exact ⟨_, runs, putCy_frame s b⟩
  case holds =>
    have runs : exec i s = .next (s.putCy b).holding := by
      simp only [List.mem_cons, Prod.mk.injEq, List.not_mem_nil, or_false] at row
      obtain ⟨rfl, rfl⟩ | ⟨rfl, rfl⟩ | ⟨rfl, rfl⟩ | ⟨rfl, rfl⟩ := row <;> rfl
    exact ⟨_, runs, (putCy_frame s b).holding⟩

/-- Settles O34. -/
theorem bitRegisters : Obligations.BitRegisters := by
  intro s n i b
  refine ⟨fun row => ?a, fun row => ?psw⟩
  case a =>
    have runs : exec i s = .next (s.putReg .a (setBit (s.reg .a) n.val b)) := by
      simp only [List.mem_cons, Prod.mk.injEq, List.not_mem_nil, or_false] at row
      obtain ⟨rfl, rfl⟩ | ⟨rfl, rfl⟩ | ⟨rfl, rfl⟩ := row <;> rfl
    refine ⟨_, runs, ?_, fun k hk ne => ?_, .putReg s .a _⟩
    · rw [reg_putReg_same, getLsbD_setBit _ n.isLt, if_pos rfl]
    · rw [reg_putReg_same, getLsbD_setBit _ hk, if_neg ne]
  case psw =>
    have runs : exec i s = .next (s.putPswBit n.val b).holding := by
      simp only [List.mem_cons, Prod.mk.injEq, List.not_mem_nil, or_false] at row
      obtain ⟨rfl, rfl⟩ | ⟨rfl, rfl⟩ | ⟨rfl, rfl⟩ := row <;> rfl
    have constant : ∀ n : BitNo, (n.val != 2) = (n != 2) := by decide
    refine ⟨_, runs, ?_, fun k hk ne => ?_, ((Frame.refl s).thenPsw _).holding⟩
    · rw [State.holding_psw, State.putPswBit_psw, getLsbD_pswValue _ n.isLt, getLsbD_setBit _ n.isLt, if_pos rfl, constant]
    · rw [State.holding_psw, State.putPswBit_psw, getLsbD_pswValue _ hk, getLsbD_setBit _ hk, if_neg ne]

end Sys2Proof.Machine
end

section
/-! SUPPORT. Calls, returns, the stack and the entry of handlers, on a stack in RAM (R360 to R373, R420). -/

namespace Sys2Proof.Machine

/-! ### Where RAM and flash lie -/

/-- RAM begins above the addresses of flash (R101, R106). -/
theorem le_of_area_ram {d : Devices} {a : Nat} (ram : d.area a = .ram) : 0xF400 ≤ a := by
  refine Nat.le_of_not_lt fun below => ?_
  have product : 0xFB00 ≤ d.chip.product.ramStart := by
    unfold Product.ramStart
    split <;> decide
  have notHigh : ¬d.ramStart ≤ a := by
    unfold Devices.ramStart
    omega
  have notExpansion : d.inExpansion a = false := by simp [Devices.inExpansion, show ¬0xF400 ≤ a by omega]
  have notRam : d.area a ≠ .ram := by
    simp only [Devices.area, show ¬0xFF00 ≤ a by omega, notHigh, notExpansion, if_false, Bool.false_eq_true]
    repeat' split
    all_goals decide
  exact notRam ram

/-- The cells of the vector and call tables are cells of flash. -/
theorem flashCell_lt {d : Devices} {a : Nat} (h : a < 0x1000) : d.flashCell a < 0xF400 := by
  unfold Devices.flashCell
  repeat' split
  all_goals omega

/-! ### Bytes stored one below the other -/

/-- The address two and three below. -/
theorem sub_one_sub_one (top : Word) : top - 1 - 1 = top - 2 := by bv_omega
theorem sub_two_sub_one (top : Word) : top - 2 - 1 = top - 3 := by bv_omega

/-- The bytes just below an address are different bytes. -/
theorem below_ne (top : Word) : (top - 1).toNat ≠ (top - 2).toNat ∧ (top - 1).toNat ≠ (top - 3).toNat ∧
    (top - 2).toNat ≠ (top - 3).toNat := by
  refine ⟨?_, ?_, ?_⟩ <;> bv_omega

/-- Two bytes pushed: where they are, and every other byte. -/
theorem putDown_two (m : Memory) (top : Word) (v w : Byte) :
    (putDown m top [v, w]).get (top - 1).toNat = v ∧ (putDown m top [v, w]).get (top - 2).toNat = w ∧
      ∀ a, a ∉ [(top - 1).toNat, (top - 2).toNat] → (putDown m top [v, w]).get a = m.get a := by
  obtain ⟨ne, -, -⟩ := below_ne top
  simp only [putDown, sub_one_sub_one]
  refine ⟨by rw [Memory.get_put_other _ ne, Memory.get_put_same], Memory.get_put_same _ _ _, fun a out => ?_⟩
  simp only [List.mem_cons, List.not_mem_nil, or_false, not_or] at out
  rw [Memory.get_put_other _ out.2, Memory.get_put_other _ out.1]

/-- Three bytes pushed: where they are, and every other byte. -/
theorem putDown_three (m : Memory) (top : Word) (v w x : Byte) :
    (putDown m top [v, w, x]).get (top - 1).toNat = v ∧ (putDown m top [v, w, x]).get (top - 2).toNat = w ∧
      (putDown m top [v, w, x]).get (top - 3).toNat = x ∧
      ∀ a, a ∉ [(top - 1).toNat, (top - 2).toNat, (top - 3).toNat] → (putDown m top [v, w, x]).get a = m.get a := by
  obtain ⟨ne12, ne13, ne23⟩ := below_ne top
  simp only [putDown, sub_one_sub_one, sub_two_sub_one]
  refine ⟨?_, ?_, Memory.get_put_same _ _ _, fun a out => ?_⟩
  · rw [Memory.get_put_other _ ne13, Memory.get_put_other _ ne12, Memory.get_put_same]
  · rw [Memory.get_put_other _ ne23, Memory.get_put_same]
  · simp only [List.mem_cons, List.not_mem_nil, or_false, not_or] at out
    rw [Memory.get_put_other _ out.2.2, Memory.get_put_other _ out.2.1, Memory.get_put_other _ out.1]

/-! ### Calls -/

/-- A call on a stack in RAM. -/
theorem callTo_ram {s : State} (stack : StackBelow s s.sp 2) (target : Word) :
    ∃ t, s.callTo target = .next t ∧ t.mem.get (s.sp - 1).toNat = hi s.pc ∧ t.mem.get (s.sp - 2).toNat = lo s.pc ∧
      Frame { s with sp := s.sp - 2 } t [(s.sp - 1).toNat, (s.sp - 2).toNat] s.psw target := by
  obtain ⟨high, low, others⟩ := putDown_two s.mem s.sp (hi s.pc) (lo s.pc)
  refine ⟨_, by rw [State.callTo, push_ram (vs := [_, _]) stack, andThen_next], high, low, ?_⟩
  exact ((Frame.of_mem others).thenSp (s.sp - 2)).thenPc target

/-- The entry address of CALLF, as one number. -/
theorem callfTarget_eq (page : BitNo) (low : Byte) :
    callfTarget page low = BitVec.ofNat 16 (0x0800 + 256 * page.val + low.toNat) := by
  have := page.isLt
  have := low.isLt
  apply BitVec.eq_of_toNat_eq
  simp only [callfTarget, zext, BitVec.zeroExtend, BitVec.toNat_add, BitVec.toNat_ofNat, BitVec.toNat_setWidth,
    show (0x0800 : Word).toNat = 0x0800 from rfl]
  omega

/-- Settles O35. -/
theorem calls : Obligations.Calls := by
  intro s addr page low entry i target form stack
  have runs : exec i s = s.callTo target := by
    simp only [List.mem_cons, Prod.mk.injEq, List.not_mem_nil, or_false] at form
    obtain ⟨rfl, rfl⟩ | ⟨rfl, rfl⟩ | ⟨rfl, rfl⟩ := form
    · rfl
    · exact congrArg s.callTo (callfTarget_eq page low)
    · have next : calltEntry entry + 1 = 0x0041 + 2 * entry.val := by rw [calltEntry]; omega
      rw [← next]
      rfl
  exact runs ▸ callTo_ram stack target

/-! ### Handlers -/

/-- Three bytes of stack in RAM. -/
theorem stackBelow_three {s : State} {top : Word} : StackBelow s top 3 ↔ s.dev.area (top - 1).toNat = .ram ∧
    s.dev.area (top - 2).toNat = .ram ∧ s.dev.area (top - 3).toNat = .ram := by
  simp only [StackBelow, sub_one_sub_one, sub_two_sub_one, and_true]

/-- A table in flash reads as before after a push into RAM. -/
theorem flashByte_of_push {s t : State} {a : Nat} (stack : StackBelow s s.sp 3) (chip : t.dev.chip = s.dev.chip)
    (others : ∀ a, a ∉ [(s.sp - 1).toNat, (s.sp - 2).toNat, (s.sp - 3).toNat] → t.mem.get a = s.mem.get a)
    (h : a < 0x1000) : t.flashByte a = s.flashByte a := by
  obtain ⟨one, two, three⟩ := stackBelow_three.mp stack
  have h1 := le_of_area_ram one
  have h2 := le_of_area_ram two
  have h3 := le_of_area_ram three
  have low := flashCell_lt (d := s.dev) h
  have same : t.dev.flashCell a = s.dev.flashCell a := by rw [Devices.flashCell, chip, Devices.flashCell]
  rw [State.flashByte, same, others _ fun m => ?_, State.flashByte]
  simp only [List.mem_cons, List.not_mem_nil, or_false] at m
  omega

/-- PSW in a handler: IE is cleared, and ISP takes the priority flag of a maskable request. -/
def handlerPsw (psw : Byte) : Option Bool → Byte
  | none => pswValue (setBit psw 7 false)
  | some b => pswValue (setBit (pswValue (setBit psw 7 false)) 1 b)

/-- The bits of PSW in the handler of a maskable request. -/
theorem getLsbD_handlerPsw_some (psw : Byte) (b : Bool) {k : Nat} (hk : k < 8) :
    (handlerPsw psw (some b)).getLsbD k = ((if k = 1 then b else if k = 7 then false else psw.getLsbD k) && k != 2) := by
  simp only [handlerPsw, getLsbD_pswValue _ hk, getLsbD_setBit _ hk]
  cases k != 2 <;> simp

/-- Entering a handler from a stack in RAM, as one update of the state. -/
theorem enter_eq {s : State} {vector : Nat} {isp : Option Bool} (stack : StackBelow s s.sp 3) :
    let t := { s with mem := putDown s.mem s.sp [s.psw, hi s.pc, lo s.pc] }
    s.enter vector isp = .next { t with sp := s.sp - 3, psw := handlerPsw s.psw isp, pc := t.tableWord vector } := by
  rw [enter_ram stack]
  cases isp <;> rfl

/-- The entry of a handler from a stack in RAM: what is pushed, PSW, PC from the vector, and nothing else. -/
theorem enter_frame {s : State} {vector : Nat} {isp : Option Bool} (stack : StackBelow s s.sp 3) (table : vector + 1 < 0x1000) :
    ∃ t, s.enter vector isp = .next t ∧ t.mem.get (s.sp - 1).toNat = s.psw ∧ t.mem.get (s.sp - 2).toNat = hi s.pc ∧
      t.mem.get (s.sp - 3).toNat = lo s.pc ∧
      Frame { s with sp := s.sp - 3 } t [(s.sp - 1).toNat, (s.sp - 2).toNat, (s.sp - 3).toNat] (handlerPsw s.psw isp)
        (join (s.flashByte (vector + 1)) (s.flashByte vector)) := by
  obtain ⟨psw, high, low, others⟩ := putDown_three s.mem s.sp s.psw (hi s.pc) (lo s.pc)
  refine ⟨_, enter_eq stack, psw, high, low, ?_⟩
  have same {a : Nat} (h : a < 0x1000) :
      State.flashByte { s with mem := putDown s.mem s.sp [s.psw, hi s.pc, lo s.pc] } a = s.flashByte a :=
    flashByte_of_push stack rfl others h
  rw [← same table, ← same (show vector < 0x1000 by omega)]
  exact (((Frame.of_mem others).thenSp (s.sp - 3)).thenPsw _).thenPc _

/-- Settles O36. -/
theorem softwareInterrupt : Obligations.SoftwareInterrupt := by
  intro s stack
  obtain ⟨t, runs, psw, high, low, frame⟩ := enter_frame (vector := 0x003E) (isp := none) stack (by decide)
  refine ⟨t, runs, psw, high, low, ?ie, ?isp, frame⟩
  all_goals
    rw [frame.psw, handlerPsw, getLsbD_pswValue _ (by decide), getLsbD_setBit _ (by decide)]
    simp

/-! ### Returns -/

/-- Settles O37. -/
theorem returns : Obligations.Returns := by
  intro s
  refine ⟨fun stack => ?ret, fun stack i form => ?leave⟩
  case ret =>
    refine ⟨_, by rw [exec, execRet, popWord_ram stack, andThen2_next], ?_⟩
    exact ((Frame.refl s).thenSp (s.sp + 2)).thenPc _
  case leave =>
    have runs : exec i s = andThen s.leave fun t => .next t.holding := by
      simp only [List.mem_cons, List.not_mem_nil, or_false] at form
      obtain rfl | rfl := form <;> rfl
    refine ⟨_, by rw [runs, leave_ram stack, andThen_next], ?_⟩
    exact ((((Frame.refl s).thenSp (s.sp + 3)).thenPsw _).thenPc _).holding

/-! ### PUSH and POP -/

/-- A pair is pushed high byte first; where the stack runs into the pair the low byte is the one just stored (R145). -/
theorem pushRp_ram {s : State} (rp : RegPair) (stack : StackBelow s s.sp 2) :
    exec (.pushRp rp) s = .next { s with
      mem := putDown s.mem s.sp [s.reg (highReg rp), (s.mem.put (s.sp - 1).toNat (s.reg (highReg rp))).get (regAddr s.psw (lowReg rp))],
      sp := s.sp - 2 } := by
  obtain ⟨one, two, -⟩ := stack
  rw [sub_one_sub_one] at two
  have low (v : Byte) : State.store { s with mem := s.mem.put (s.sp - 1).toNat (s.reg (highReg rp)) } .byte (s.sp - 2) v = _ :=
    store_ram two
  rw [exec, execPushRp, store_ram one, andThen_next, low, andThen_next]
  simp only [putDown, sub_one_sub_one, State.reg]

/-- A pair is popped high byte first; where the stack runs into the pair the low byte is the one just written (R145). -/
theorem popRp_ram {s : State} (rp : RegPair) (stack : StackAbove s s.sp 2) :
    let t := s.putReg (highReg rp) (s.mem.get (s.sp + 1).toNat)
    exec (.popRp rp) s = .next { t.putReg (lowReg rp) (t.mem.get s.sp.toNat) with sp := s.sp + 2 } := by
  obtain ⟨low, high, -⟩ := stack
  have second : (s.putReg (highReg rp) (s.mem.get (s.sp + 1).toNat)).load .byte s.sp = _ := load_ram low
  simp only [exec, execPopRp, load_ram high, andThen2_next, second]

/-- Settles O38. -/
theorem pushPop : Obligations.PushPop := by
  intro s rp
  refine ⟨fun stack => ?pushPsw, fun stack => ?pushRp, fun stack => ?popPsw, fun stack => ?popRp⟩
  case pushPsw =>
    refine ⟨_, by rw [exec, execPushPsw, push_ram (vs := [s.psw]) stack, andThen_next], Memory.get_put_same _ _ _, ?_⟩
    exact ((Frame.of_mem fun a out => Memory.get_put_other _ (fun e => out (List.mem_singleton.mpr e)) _).thenSp _).holding
  case pushRp =>
    obtain ⟨high, low, others⟩ := putDown_two s.mem s.sp (s.reg (highReg rp))
      ((s.mem.put (s.sp - 1).toNat (s.reg (highReg rp))).get (regAddr s.psw (lowReg rp)))
    refine ⟨_, pushRp_ram rp stack, high.trans (hi_join _ _).symm, low.trans ?_, (Frame.of_mem others).thenSp _⟩
    simp only [Memory.get_put, State.pair, hi_join, lo_join, State.reg]
  case popPsw =>
    refine ⟨_, by rw [exec, execPopPsw, popByte_ram stack, andThen2_next], ?_⟩
    exact (((Frame.refl s).thenSp (s.sp + 1)).thenPsw _).holding
  case popRp =>
    refine ⟨_, popRp_ram rp stack, ?_, ?_⟩
    · simp [State.pair, State.reg, Memory.get_put, eq_comm (a := s.sp.toNat)]
    · refine (((Frame.putReg s _ _).trans (.putReg (s.putReg _ _) _ _)).mono ?_).thenSp _
      exact (List.Perm.swap _ _ []).subset

end Sys2Proof.Machine
end

section
/-! SUPPORT. Branches (R380 to R390). -/

namespace Sys2Proof.Machine

/-- A relative target is the signed displacement added to the address after the instruction (D4). -/
theorem relative_eq (pc : Word) (disp : Byte) : BitVec.ofInt 16 (pc.toNat + disp.toInt) = pc + sext disp := by
  rw [BitVec.ofInt_add, BitVec.ofInt_natCast, BitVec.ofNat_toNat, BitVec.setWidth_eq]
  rfl

namespace Frame

variable {s t : State} {xs : List Nat} {psw : Byte} {pc : Word}

/-- A branch where a condition holds changes PC only. -/
theorem thenBranchIf (h : Frame s t xs psw pc) (c : Bool) (disp : Byte) :
    Frame s (t.branchIf c disp) xs psw (if c then pc + sext disp else pc) := by
  cases c with
  | false => exact h
  | true => exact (h.thenPc (t.pc + sext disp)).cast rfl (congrArg (· + sext disp) h.pc.symm)

end Frame

/-- Settles O39. -/
theorem branches : Obligations.Branches := by
  intro s addr disp i c target rel form
  have relative : rel = s.pc + sext disp := relative_eq s.pc disp
  suffices runs : exec i s = .next { s with pc := if c then target else s.pc } from
    ⟨_, runs, (Frame.refl s).thenPc _⟩
  have branchIf (b : Bool) : s.branchIf b disp = { s with pc := if b then rel else s.pc } := by
    rw [relative]
    cases b <;> rfl
  simp only [List.mem_cons, Prod.mk.injEq, List.not_mem_nil, or_false] at form
  obtain ⟨rfl, rfl, rfl⟩ | ⟨rfl, rfl, rfl⟩ | ⟨rfl, rfl, rfl⟩ | ⟨rfl, rfl, rfl⟩ | ⟨rfl, rfl, rfl⟩ | ⟨rfl, rfl, rfl⟩ |
    ⟨rfl, rfl, rfl⟩ := form
  case inl | inr.inr.inl => rfl
  case inr.inl => exact congrArg Host.Outcome.next (branchIf true)
  all_goals exact congrArg Host.Outcome.next (branchIf _)

/-- Settles O40. -/
theorem bitBranches : Obligations.BitBranches := by
  intro s t saddr sfr disp n v i ea c form read
  have runs : exec i s = andThen2 (s.loadBit ea n) fun b t => .next (t.branchIf (b == c) disp) := by
    simp only [List.mem_cons, Prod.mk.injEq, List.not_mem_nil, or_false] at form
    obtain ⟨rfl, rfl, rfl⟩ | ⟨rfl, rfl, rfl⟩ | ⟨rfl, rfl, rfl⟩ | ⟨rfl, rfl, rfl⟩ | ⟨rfl, rfl, rfl⟩ | ⟨rfl, rfl, rfl⟩ := form
    case inl | inr.inl | inr.inr.inl => simp only [beq_true]; rfl
    all_goals simp only [beq_false]; rfl
  have loaded := load_spec read
  refine ⟨_, loaded, by rw [runs, loadBit_of_load read, andThen2_next], ?_⟩
  have frame := (Frame.refl t).thenBranchIf (v.getLsbD n.val == c) disp
  simpa only [beq_iff_eq, loaded.psw, loaded.pc] using frame

/-- Settles O41. -/
theorem registerBitBranches : Obligations.RegisterBitBranches := by
  intro s n disp x p far
  have same := Frame.refl s
  refine ⟨⟨_, rfl, same.thenBranchIf x disp⟩, ⟨_, rfl, ?_⟩, ⟨_, rfl, (same.thenBranchIf p disp).holding⟩, ⟨_, rfl, ?_⟩,
    ⟨_, rfl, ?_, ?_⟩, ⟨_, rfl, Frame.holding ?_⟩⟩
  case refine_1 => exact (same.thenBranchIf (!x) disp).cast rfl (by cases x <;> rfl)
  case refine_2 => exact (same.thenBranchIf (!p) disp).holding.cast rfl (by cases p <;> rfl)
  case refine_3 =>
    change (if x then (s.putReg .a (setBit (s.reg .a) n.val false)).branch disp else s).mem.get _ = _
    cases x
    · rfl
    · exact Memory.get_put_same _ _ _
  case refine_4 =>
    change Frame s (if x then (s.putReg .a (setBit (s.reg .a) n.val false)).branch disp else s) _ _ _
    cases x with
    | false => exact same.mono (List.nil_subset _)
    | true => exact (Frame.putReg s .a _).thenPc far
  case refine_5 =>
    change Frame s (if p then (s.putPswBit n.val false).branch disp else s) _ _ _
    cases p with
    | false => exact same
    | true => exact (same.thenPsw _).thenPc far

/-- What BTCLR writes back: the byte with the bit cleared where it is 1, and nothing where it is 0 (R389, D15). -/
def clearWhereSet (n : BitNo) (v : Byte) : Option Byte := if v.getLsbD n.val then some (setBit v n.val false) else none

theorem testClear_eq (s : State) (ea : Word) (n : BitNo) :
    s.testClear ea n = andThen2 (s.modify .bit ea (clearWhereSet n)) fun v u => .next (v.getLsbD n.val, u) := rfl

/-- A bit that is 1 is tested and cleared. -/
theorem testClear_of_one {s t : State} {ea : Word} {v : Byte} {n : BitNo} (read : s.load .bit ea = .next (v, t))
    (one : v.getLsbD n.val = true) (writable : Writable t.midway .bit ea (setBit v n.val false ||| t.raisedMidway .bit ea)) :
    ∃ u, s.testClear ea n = .next (true, u) ∧ Stored t.midway u .bit ea (setBit v n.val false ||| t.raisedMidway .bit ea) := by
  obtain ⟨u, stored, modified⟩ := modify_of_writable (f := clearWhereSet n) read (if_pos one) writable
  exact ⟨u, by rw [testClear_eq, modified, andThen2_next, one], stored⟩

/-- A bit that is 0 is tested, and nothing is written (D15). -/
theorem testClear_of_zero {s t : State} {ea : Word} {v : Byte} {n : BitNo} (read : s.load .bit ea = .next (v, t))
    (zero : v.getLsbD n.val = false) : s.testClear ea n = .next (false, t) := by
  rw [testClear_eq, modify_of_unchanged read (if_neg (zero ▸ Bool.false_ne_true)), andThen2_next, zero]

/-- Settles O42. -/
theorem testAndClear : Obligations.TestAndClear := by
  intro s t saddr sfr disp n v i ea form read b
  have runs : exec i s = andThen2 (s.testClear ea n) fun b u => .next (u.branchIf b disp) := by
    simp only [List.mem_cons, Prod.mk.injEq, List.not_mem_nil, or_false] at form
    obtain ⟨rfl, rfl⟩ | ⟨rfl, rfl⟩ | ⟨rfl, rfl⟩ := form <;> rfl
  refine ⟨fun one writable => ?clear, fun zero => ?keep⟩
  case clear =>
    obtain ⟨u, tested, stored⟩ := testClear_of_one read one writable
    refine ⟨u, _, stored, by rw [runs, tested, andThen2_next], ?_⟩
    exact ((Frame.refl u).thenBranchIf true disp).cast rfl
      (congrArg (· + sext disp) (stored.pc_of_loaded (load_spec read)).symm)
  case keep =>
    rw [runs, testClear_of_zero read zero, andThen2_next]
    rfl

/-- A count that is 1 becomes 0 and does not branch. -/
theorem loop_target (v : Byte) (pc far : Word) : (if (v - 1 != 0) = true then far else pc) = if v = 1 then pc else far := by
  simp only [bne_iff_ne, ne_eq, diff_eq_zero, ite_not]

/-- Settles O43. -/
theorem loops : Obligations.Loops := by
  intro s disp
  refine ⟨fun i r form => ?register, fun saddr v t read writable => ?memory⟩
  case register =>
    have runs : exec i s = .next ((s.putReg r (s.reg r - 1)).branchIf (s.reg r - 1 != 0) disp) := by
      simp only [List.mem_cons, Prod.mk.injEq, List.not_mem_nil, or_false] at form
      obtain ⟨rfl, rfl⟩ | ⟨rfl, rfl⟩ := form <;> rfl
    refine ⟨_, runs, ?_, ((Frame.putReg s r _).thenBranchIf _ disp).cast rfl (loop_target _ _ _).symm⟩
    exact Eq.trans (by cases s.reg r - 1 != 0 <;> rfl) (reg_putReg_same s r (s.reg r - 1))
  case memory =>
    obtain ⟨u, stored, modified⟩ := modify_byte (f := fun v => some (v - 1)) read rfl writable
    refine ⟨u, _, stored, by rw [exec, execDbnzSaddr, modified, andThen2_next], ?_⟩
    refine ((Frame.refl u).thenBranchIf (v - 1 != 0) disp).cast rfl ?_
    rw [loop_target, stored.pc_of_loaded (load_spec read)]

end Sys2Proof.Machine
end

section
/-! SUPPORT. CPU control (R392 to R395) and the standby modes (R396, R397, R841 to R852). -/

namespace Sys2Proof.Machine

/-! ### SEL, NOP, EI, DI -/

/-- A bit of PSW written, bit by bit. -/
theorem getLsbD_putPswBit (s : State) (b : Bool) (n : Nat) {k : Nat} (hk : k < 8) :
    (s.putPswBit n b).psw.getLsbD k = ((if k = n then b else s.psw.getLsbD k) && k != 2) := by
  rw [State.putPswBit_psw, getLsbD_pswValue _ hk, getLsbD_setBit _ hk]

/-- Where bit 2 is 0, as always (D5), a write of another bit changes that bit only. -/
theorem getLsbD_putPswBit_of_two {s : State} (two : s.psw.getLsbD 2 = false) (b : Bool) {n : Nat} (hn : n ≠ 2) {k : Nat}
    (hk : k < 8) : (s.putPswBit n b).psw.getLsbD k = if k = n then b else s.psw.getLsbD k := by
  rw [getLsbD_putPswBit s b n hk]
  by_cases k2 : k = 2
  · subst k2
    rw [if_neg hn.symm, two, Bool.false_and]
  · rw [bne_iff_ne.mpr k2, Bool.and_true]

/-- SEL writes the number of the bank to bits 5 and 3. -/
theorem bankOf_sel (s : State) (n : Fin 4) :
    bankOf ((s.putPswBit 5 (decide (2 ≤ n.val))).putPswBit 3 (decide (n.val % 2 = 1))).psw = n.val := by
  have five : (5 : Nat) < 8 := by decide
  have three : (3 : Nat) < 8 := by decide
  rw [bankOf, getLsbD_putPswBit _ _ _ five, getLsbD_putPswBit _ _ _ three, getLsbD_putPswBit _ _ _ five]
  obtain rfl | rfl | rfl | rfl := bank_cases n <;> rfl

/-- The bits of the masks of EI and DI. -/
theorem getLsbD_ieMask {k : Nat} (hk : k < 8) : (0x80 : Byte).getLsbD k = decide (k = 7) := by
  revert k
  decide

theorem getLsbD_keepMask {k : Nat} (hk : k < 8) : (0x7F : Byte).getLsbD k = decide (k ≠ 7) := by
  revert k
  decide

/-- Settles O44. -/
theorem control : Obligations.Control := by
  intro s n two
  refine ⟨⟨_, rfl, bankOf_sel s n, fun k other => ?others, ((Frame.refl s).thenPsw _).thenPsw _⟩, rfl, ⟨_, rfl, ?ei⟩, ⟨_, rfl, ?di⟩⟩
  case others =>
    have places : k < 8 ∧ k ≠ 3 ∧ k ≠ 5 := by
      revert k
      decide
    obtain ⟨lt, not3, not5⟩ := places
    have first {j : Nat} (hj : j < 8) := getLsbD_putPswBit_of_two two (decide (2 ≤ n.val)) (n := 5) (by decide) hj
    have two' := (first (j := 2) (by decide)).trans two
    rw [getLsbD_putPswBit_of_two two' _ (by decide) lt, if_neg not3, first lt, if_neg not5]
  case ei =>
    refine ((Frame.refl s).thenPsw _).holding.cast (BitVec.eq_of_getLsbD_eq fun k hk => ?_) rfl
    refine Eq.trans ?_ (getLsbD_putPswBit_of_two two true (n := 7) (by decide) hk).symm
    rw [BitVec.getLsbD_or, getLsbD_ieMask hk]
    by_cases seven : k = 7 <;> simp [seven]
  case di =>
    refine ((Frame.refl s).thenPsw _).holding.cast (BitVec.eq_of_getLsbD_eq fun k hk => ?_) rfl
    refine Eq.trans ?_ (getLsbD_putPswBit_of_two two false (n := 7) (by decide) hk).symm
    rw [BitVec.getLsbD_and, getLsbD_keepMask hk]
    by_cases seven : k = 7 <;> simp [seven]

/-! ### HALT and STOP -/

/-- A UART loses its clock: only the list of those that did changes. -/
theorem Devices.uartsStopped_eq (d before : Devices) :
    d.uartsStopped before = { d with stalled := (d.uartsStopped before).stalled } := by
  unfold Devices.uartsStopped Devices.stallIf
  repeat' split
  all_goals rfl

/-- The switches of the CPU clock completed: only the clock generator changes. -/
theorem Devices.finishSwitches_eq (d : Devices) : d.finishCss.finishMcs = { d with clock := d.finishCss.finishMcs.clock } := by
  simp only [Devices.finishCss, Devices.finishMcs]
  split <;> split <;> rfl

/-- What STOP changes: the mode, the clock generator, whose stabilisation counter is cleared, and the UARTs that lose their clock. -/
theorem Devices.enterStop_eq (d : Devices) : ∃ (c : Clock) (l : List Block), c.x1Count = 0 ∧
    d.enterStop = { d with mode := .stop, clock := c, stalled := l } := by
  have switched := d.finishSwitches_eq
  generalize d.finishCss.finishMcs.clock = c at switched
  exact ⟨{ c with rhStable := false, x1Count := 0 }, d.enterStop.stalled, rfl, by
    rw [Devices.enterStop, switched]
    exact Devices.uartsStopped_eq _ _⟩

/-- Settles O45. -/
theorem standby : Obligations.Standby := by
  intro s
  refine ⟨⟨_, rfl, rfl, rfl⟩, fun main => ?stop, fun sub => if_pos sub⟩
  obtain ⟨c, l, cleared, stopped⟩ := s.dev.enterStop_eq
  refine ⟨{ s with dev := s.dev.enterStop }, if_neg (main ▸ Bool.false_ne_true), rfl, ?_⟩
  rw [show State.dev { s with dev := s.dev.enterStop } = _ from stopped]
  refine ⟨rfl, ?ostc, rfl, rfl, rfl, rfl⟩
  simp only [Devices.ostc, cleared]
  decide

/-- Settles O46. -/
theorem haltHeld : Obligations.HaltHeld := by
  intro s halt
  have turn (q : State) (same : q.dev = s.dev) : q.cpuTurn = .next q.leftover := by simp only [State.cpuTurn, same, halt]
  refine ⟨fun none empty => ?idle, fun ms rest none first => ?cpu, fun m rest first request quiet => ?move⟩
  case idle => rw [step_of_cpuTurn (.inl ⟨empty, rfl⟩), turn s rfl, leftover_nil none]
  case cpu =>
    rw [step_of_cpuTurn (.inr ⟨ms, rest, first, rfl⟩)]
    refine (turn { s with agenda := rest, between := ms ++ s.between } rfl).trans ?_
    cases ms with
    | nil => rw [leftover_nil (by exact none), none]; rfl
    | cons m ms => rw [none]; simp [State.leftover]
  case move =>
    have held : (s.dev.move m).mode = .halt := (Devices.move_mode (halt ▸ by decide) m).trans halt
    refine ⟨held, ?_⟩
    have awaits : (s.dev.move m).release.wake = s.dev.move m := by
      simp [Devices.release, Devices.wake, held, quiet]
    simp [step, first, State.otherTurn, State.afterMove, request, awaits, held]

end Sys2Proof.Machine
end

section
/-! SUPPORT. Interrupt requests, their choice and acceptance (R401, R415, R420, R421), and the state after a reset (R930 to R941). -/

namespace Sys2Proof.Machine

/-! ### The registers of the interrupt requests -/

/-- Every request has its place in a byte. -/
theorem place_lt (n : Nat) : n % 8 < 8 := Nat.mod_lt n (by decide)

/-- The request flags are no register that the memory map depends on. -/
theorem flagReg_ne_map (k : Nat) : Sfr.IMS ≠ flagReg k ∧ Sfr.IXS ≠ flagReg k := by
  unfold flagReg
  split <;> decide

/-- A bit written is the bit read. -/
theorem Devices.getLsbD_rd_putBit (d : Devices) (r : Sfr) (v : Bool) {n k : Nat} (hk : k < 8) :
    ((d.putBit r n v).rd r).getLsbD k = if k = n then v else (d.rd r).getLsbD k := by
  rw [Devices.putBit, Devices.rd_wr_same, getLsbD_setBit _ hk]

/-- Settles O48. -/
theorem requestFlags : Obligations.RequestFlags := by
  intro d src r n
  refine ⟨?flag, fun k hk ne => ?bits, fun q ne => Devices.rd_wr_other _ ne _, rfl⟩
  case flag => exact (d.getLsbD_rd_putBit r true (place_lt _)).trans (if_pos rfl)
  case bits => exact (d.getLsbD_rd_putBit r true hk).trans (if_neg ne)

/-! ### The choice of a request (R420) -/

/-- Request `k` is acceptable: its flag is set and its mask clear (R402). -/
def Devices.pending (d : Devices) (k : Nat) : Bool :=
  (d.rd (flagReg (k / 8))).getLsbD (k % 8) && !(d.rd (maskReg (k / 8))).getLsbD (k % 8)

/-- The priority flag of request `k`. -/
def Devices.priority (d : Devices) (k : Nat) : Bool := (d.rd (prioReg (k / 8))).getLsbD (k % 8)

/-- The acceptable requests of a priority flag, bit by bit. -/
theorem Devices.acceptable_eq (d : Devices) (low : Bool) (k : Nat) :
    (d.acceptable low (k / 8)).getLsbD (k % 8) = (d.pending k && d.priority k == low) := by
  have mask (x : Byte) : (~~~x).getLsbD (k % 8) = !x.getLsbD (k % 8) := by
    rw [BitVec.getLsbD_not, decide_eq_true (place_lt k), Bool.true_and]
  cases low <;>
    simp only [Devices.acceptable, Devices.unmasked, BitVec.getLsbD_and, mask, Devices.pending, Devices.priority, if_true,
      Bool.false_eq_true, if_false, beq_true, beq_false]

/-- No request of a priority flag. -/
theorem Devices.firstRequest_none {d : Devices} {low : Bool} (h : d.firstRequest low = none) {k : Nat} (hk : k < 29)
    (pending : d.pending k = true) : d.priority k ≠ low := by
  intro same
  have := List.find?_range_eq_none.mp h k hk
  simp [d.acceptable_eq, pending, same] at this

/-- The first request of a priority flag, and that no earlier one has it. -/
theorem Devices.firstRequest_some {d : Devices} {low : Bool} {n : Nat} (h : d.firstRequest low = some n) :
    n < 29 ∧ d.pending n = true ∧ d.priority n = low ∧ ∀ k, d.pending k = true → d.priority k = low → n ≤ k := by
  obtain ⟨found, lt, first⟩ := List.find?_range_eq_some.mp h
  simp only [d.acceptable_eq, Bool.and_eq_true, beq_iff_eq] at found
  refine ⟨List.mem_range.mp lt, found.1, found.2, fun k pending same => Nat.le_of_not_lt fun earlier => ?_⟩
  have := first k earlier
  simp [d.acceptable_eq, pending, same] at this

/-- No request is chosen: none is acceptable. -/
theorem Devices.chosenRequest_none {d : Devices} (h : d.chosenRequest = none) {k : Nat} (hk : k < 29) : d.pending k = false := by
  unfold Devices.chosenRequest at h
  split at h
  · cases h
  · next high =>
    have low : d.firstRequest true = none := Option.map_eq_none_iff.mp h
    refine Bool.eq_false_iff.mpr fun pending => ?_
    cases priority : d.priority k
    · exact Devices.firstRequest_none high hk pending priority
    · exact Devices.firstRequest_none low hk pending priority

/-- The chosen request: of priority flag 0 if any acceptable one is, and the lowest of its priority flag. -/
theorem Devices.chosenRequest_some {d : Devices} {n : Nat} {low : Bool} (h : d.chosenRequest = some (n, low)) :
    n < 29 ∧ d.pending n = true ∧ d.priority n = low ∧
      ∀ k < 29, d.pending k = true → (d.priority k = low → n ≤ k) ∧ (d.priority k = false → low = false) := by
  unfold Devices.chosenRequest at h
  split at h
  · next m high =>
    cases h
    obtain ⟨lt, pending, priority, first⟩ := Devices.firstRequest_some high
    exact ⟨lt, pending, priority, fun k _ pend => ⟨first k pend, fun _ => rfl⟩⟩
  · next high =>
    obtain ⟨m, lowest, e⟩ := Option.map_eq_some_iff.mp h
    cases e
    obtain ⟨lt, pending, priority, first⟩ := Devices.firstRequest_some lowest
    exact ⟨lt, pending, priority, fun k hk pend => ⟨first k pend, fun zero => absurd zero (Devices.firstRequest_none high hk pend)⟩⟩

/-! ### The acceptance of a request (R420) -/

/-- The memory map depends on the product and on IMS and IXS only. -/
theorem Devices.area_congr {d e : Devices} (chip : e.chip = d.chip) (ims : e.rd .IMS = d.rd .IMS) (ixs : e.rd .IXS = d.rd .IXS)
    (a : Nat) : e.area a = d.area a := by
  have ram : e.ramStart = d.ramStart := by rw [Devices.ramStart, chip, ims, Devices.ramStart]
  have flash : e.flashEnd = d.flashEnd := by rw [Devices.flashEnd, chip, ims, Devices.flashEnd]
  have expansion : e.inExpansion a = d.inExpansion a := by
    rw [Devices.inExpansion, Devices.expansionOpen, chip, ixs, Devices.inExpansion, Devices.expansionOpen]
  have series : e.series = d.series := by rw [Devices.series, chip, Devices.series]
  unfold Devices.area Devices.inLcd Devices.inBuffer Devices.inDelay
  rw [ram, flash, expansion, series]

/-- A stack in RAM stays there when a request flag is written. -/
theorem stackBelow_putBit {s : State} (k m : Nat) (v : Bool) (stack : StackBelow s s.sp 3) :
    StackBelow { s with dev := s.dev.putBit (flagReg k) m v } s.sp 3 := by
  have same (a : Nat) : (s.dev.putBit (flagReg k) m v).area a = s.dev.area a :=
    Devices.area_congr (d := s.dev) (e := s.dev.putBit (flagReg k) m v) rfl (Devices.rd_wr_other _ (flagReg_ne_map k).1 _)
      (Devices.rd_wr_other _ (flagReg_ne_map k).2 _) a
  rw [stackBelow_three] at stack ⊢
  simpa only [same] using stack

/-- What R420 asks of IE and ISP for the acceptance of a chosen request. -/
theorem acceptInterrupt_some {s : State} {n : Nat} {low : Bool} (h : s.dev.chosenRequest = some (n, low)) :
    s.acceptInterrupt =
      if s.psw.getLsbD 7 = true ∧ (low = true → s.psw.getLsbD 1 = true) then s.acceptRequest n low else .next s := by
  have allowed : (s.ie && (!low || s.isp)) = true ↔ s.psw.getLsbD 7 = true ∧ (low = true → s.psw.getLsbD 1 = true) := by
    cases low <;> simp [State.ie, State.isp]
  simp only [State.acceptInterrupt, h, allowed]

/-- Settles O47. -/
theorem maskableInterrupt : Obligations.MaskableInterrupt := by
  intro s pending prio
  refine ⟨fun none => ⟨fun k hk => Devices.chosenRequest_none none hk, acceptInterrupt_none none⟩, fun n low chosen =>
    ⟨Devices.chosenRequest_some chosen, fun allowed stack => ?accept, fun held => (acceptInterrupt_some chosen).trans (if_neg held)⟩⟩
  obtain ⟨t, entered, psw, high, pclow, frame⟩ := enter_frame (vector := vectorOf n) (isp := some low)
    (stackBelow_putBit (n / 8) (n % 8) false stack) (by have := (Devices.chosenRequest_some chosen).1; rw [vectorOf]; omega)
  have bits {k : Nat} (hk : k < 8) : t.psw.getLsbD k = ((if k = 1 then low else if k = 7 then false else s.psw.getLsbD k) && k != 2) := by
    rw [frame.psw, getLsbD_handlerPsw_some _ _ hk]
  refine ⟨t, ?runs, ?flag, psw, high, pclow, ?ie, ?isp, ?others, ?frame⟩
  case runs => rw [acceptInterrupt_some chosen, if_pos allowed]; exact entered
  case flag => rw [frame.dev, Devices.getLsbD_rd_putBit _ _ _ (place_lt n), if_pos rfl]
  case ie => rw [bits (by decide)]; rfl
  case isp => rw [bits (by decide)]; simp
  case others =>
    intro k other
    have places : k < 8 ∧ k ≠ 1 ∧ k ≠ 2 ∧ k ≠ 7 := by
      revert k
      decide
    obtain ⟨lt, not1, not2, not7⟩ := places
    rw [bits lt, if_neg not1, if_neg not7, bne_iff_ne.mpr not2, Bool.and_true]
  case frame =>
    refine frame.cast frame.psw ?_
    rw [show 0x0005 + 2 * n = vectorOf n + 1 by rw [vectorOf]; omega]
    rfl

/-! ### The instruction boundary (R421, R430) -/

/-- Settles O49. -/
theorem boundary : Obligations.Boundary := by
  intro s n t request run
  have checks : s.boundary n = t.checkRequests := by
    have quiet : ((s.dev.clockSwitches n).momentPasses s.dev).resetReq = none := request
    have awake : ((s.dev.clockSwitches n).momentPasses s.dev).wake = (s.dev.clockSwitches n).momentPasses s.dev := wake_run run
    simp only [State.boundary, quiet, awake, t]
  refine ⟨fun hold => ?_, fun free none => ?_, fun free r chosen => ?_⟩
  · rw [checks, State.checkRequests, if_pos hold]
  · have settled : State.settle { t with hold := false } = t := by
      rw [State.settle, request, ← free]
    rw [checks, State.checkRequests, if_neg (free ▸ Bool.false_ne_true), if_pos run, acceptInterrupt_none none, andThen_next, settled]
  · rw [checks, State.checkRequests, if_neg (free ▸ Bool.false_ne_true), if_pos run]

/-! ### Resets -/

/-- A cell that a filter keeps reads as before, and so does one not listed where unlisted cells read the same. -/
theorem Cells.read_filter {f g : Nat → Byte} {p : Host.Cell → Bool} {a : Nat} (unlisted : f a = g a) (keep : ∀ v, p (a, v) = true)
    (cs : List Host.Cell) : Cells.read f (cs.filter p) a = Cells.read g cs a := by
  induction cs with
  | nil => exact unlisted
  | cons c rest ih =>
    obtain ⟨k, v⟩ := c
    by_cases here : k = a
    · subst here
      rw [List.filter_cons_of_pos (keep v)]
      simp [Cells.read]
    · by_cases kept : p (k, v) = true
      · rw [List.filter_cons_of_pos kept]
        simp [Cells.read, here, ih]
      · rw [List.filter_cons_of_neg kept, ih]
        simp [Cells.read, here]

/-- Flash reads as before after a reset (R935). -/
theorem Memory.get_afterReset (m : Memory) (r : Bool) {a : Nat} (h : a < 0xF000) : (m.afterReset r).get a = m.get a := by
  cases r with
  | true => rfl
  | false =>
    have unlisted : memDefault (m.epoch + 1) a = memDefault m.epoch a := by simp [memDefault, h]
    exact Cells.read_filter unlisted (fun _ => decide_eq_true h) m.cells

/-- A register that no cause of a reset sets has its reset value. -/
theorem State.takeReset_rd_other (s : State) (c : ResetCause) {r : Sfr} (resf : r ≠ .RESF) (lvim : r ≠ .LVIM) (lvis : r ≠ .LVIS) :
    (s.takeReset c).dev.rd r = State.reset.dev.rd r := by
  rw [s.takeReset_rd, Devices.rd_wr_other _ lvis, Devices.rd_wr_other _ lvim, Devices.rd_wr_other _ resf]

/-- Settles O51. -/
theorem resetSequence : Obligations.ResetSequence := by
  intro s c t
  have value {r : Sfr} := s.takeReset_rd_other c (r := r)
  refine ⟨rfl, rfl, rfl, rfl, fun a h => Memory.get_afterReset _ _ h, fun standby => ?kept,
    value (by decide) (by decide) (by decide), value (by decide) (by decide) (by decide), value (by decide) (by decide) (by decide),
    value (by decide) (by decide) (by decide), value (by decide) (by decide) (by decide)⟩
  have retains : s.dev.mode.retains = true := by
    cases mode : s.dev.mode
    case run => exact absurd mode standby
    all_goals rfl
  constructor
  · change s.mem.afterReset s.dev.mode.retains = s.mem
    rw [retains]
    rfl
  · change s.dev.ram.afterReset s.dev.mode.retains = s.dev.ram
    rw [retains]
    rfl

/-- Settles O53: the reset values are computed from the register list. -/
theorem resetValues : Obligations.ResetValues := by
  refine ⟨rfl, rfl, ?_⟩
  decide

end Sys2Proof.Machine
end

section
/-! SUPPORT. The watchdog's counter (R620 to R625), a read-only register (U4), reads of the ports (R451 to R453) and the interval
timers 50 to 52 (R566). -/

namespace Sys2Proof.Machine

/-! ### The watchdog's counter -/

/-- The counter overflows, or not, or freely near the set time after a clear: nothing but a draw is counted. -/
theorem Devices.wdtOverflows_eq (d : Devices) (n : Nat) :
    (d.wdtOverflows n).2 = { d with draws := (d.wdtOverflows n).2.draws } := by
  unfold Devices.wdtOverflows
  repeat' split
  all_goals rfl

/-- Before the margin nothing is due. -/
theorem Devices.wdtOverflows_early {d : Devices} {n : Nat}
    (early : n < if d.wdt.written then d.wdtOverflow - 2 else d.wdtOverflow) : (d.wdtOverflows n).1 = false := by
  unfold Devices.wdtOverflows
  cases written : d.wdt.written
  · rw [written, if_neg Bool.false_ne_true] at early
    simp [early]
  · rw [written, if_pos rfl] at early
    simp [show ¬d.wdtOverflow + 2 ≤ n by omega, show ¬d.wdtOverflow ≤ n + 2 by omega]

/-- Past the margin the overflow is due. -/
theorem Devices.wdtOverflows_late {d : Devices} {n : Nat}
    (late : (if d.wdt.written then d.wdtOverflow + 2 else d.wdtOverflow) ≤ n) : (d.wdtOverflows n).1 = true := by
  unfold Devices.wdtOverflows
  cases written : d.wdt.written
  · rw [written, if_neg Bool.false_ne_true] at late
    simp [late]
  · rw [written, if_pos rfl] at late
    simp [late]

/-- The watchdog with another count. -/
def Devices.wdtCounted (d : Devices) (n : Nat) : Devices := { d with wdt := { d.wdt with count := n } }

/-- A clock of the watchdog counts, and requests a reset where the overflow is due. -/
theorem Devices.wdtClock_of_counting {d : Devices} (clocked : d.wdtClocked = true) (free : d.wdt.waiting = false) :
    d.wdtClock =
      let x := (d.wdtCounted (d.wdt.count + 1)).wdtOverflows (d.wdt.count + 1)
      if x.1 then x.2.requestReset .watchdog else x.2 := by
  simp [Devices.wdtClock, clocked, free, Devices.wdtCounted]

/-- ACH clears the counter, or is abnormal in the window-close period. -/
theorem Devices.writeWdte_ach {d : Devices} (on : d.wdton = true) :
    d.writeWdte 0xAC =
      if d.wdt.written = true ∧ d.wdt.count < d.wdtClosed then d.wdtViolation
      else { d with wdt := { d.wdt with count := 0, written := true } } := by
  simp [Devices.writeWdte, on]

/-- The window-close period is a share in quarters of the overflow time (R625). -/
theorem Devices.wdtClosed_share (d : Devices) : 4 * d.wdtClosed = (3 - d.chip.option80.toNat / 32 % 4) * d.wdtOverflow := by
  have quarters : 4 ∣ d.wdtOverflow * (3 - field d.chip.option80 5 2) := by
    have whole : 2 ^ 2 ∣ d.wdtOverflow := Nat.pow_dvd_pow 2 (show 2 ≤ 10 + field d.chip.option80 1 3 by omega)
    exact Nat.dvd_mul_right_of_dvd whole _
  rw [Devices.wdtClosed, Nat.mul_div_cancel' quarters, Nat.mul_comm]
  rfl

/-- Settles O57. -/
theorem watchdogOverflow : Obligations.WatchdogOverflow := by
  intro d limit
  have overflow (n : Nat) : (d.wdtCounted n).wdtOverflow = limit := rfl
  refine ⟨fun clocked free => ?count, fun on => ⟨fun opened => ?restart, fun closed runs => ?abnormal, fun closed stopped => ?waits,
    fun window share row here => ?share, ?read⟩⟩
  case count =>
    have rest := (d.wdtCounted (d.wdt.count + 1)).wdtOverflows_eq (d.wdt.count + 1)
    have early := Devices.wdtOverflows_early (d := d.wdtCounted (d.wdt.count + 1)) (n := d.wdt.count + 1)
    have late := Devices.wdtOverflows_late (d := d.wdtCounted (d.wdt.count + 1)) (n := d.wdt.count + 1)
    rw [overflow] at early late
    rw [Devices.wdtClock_of_counting clocked free]
    dsimp only
    cases due : ((d.wdtCounted (d.wdt.count + 1)).wdtOverflows (d.wdt.count + 1)).1
    · rw [if_neg Bool.false_ne_true, rest]
      exact ⟨rfl, .inl rfl, fun _ => rfl, fun h => absurd ((late h).symm.trans due) (by decide)⟩
    · rw [if_pos rfl, rest]
      exact ⟨rfl, .inr rfl, fun h => absurd ((early h).symm.trans due) (by decide), fun _ => rfl⟩
  case restart =>
    have notClosed : ¬(d.wdt.written = true ∧ d.wdt.count < d.wdtClosed) := by
      rintro ⟨written, before⟩
      obtain unwritten | after := opened
      · exact absurd (written.symm.trans unwritten) (by decide)
      · omega
    rw [d.sfrWrite_byte_wdte, Devices.writeWdte_ach on, if_neg notClosed]
  case abnormal => rw [d.sfrWrite_byte_wdte, Devices.writeWdte_ach on, if_pos closed, Devices.wdtViolation_of_wdton on, if_pos runs]
  case waits =>
    rw [d.sfrWrite_byte_wdte, Devices.writeWdte_ach on, if_pos closed, Devices.wdtViolation_of_wdton on,
      if_neg (stopped ▸ Bool.false_ne_true)]
  case share =>
    rw [d.wdtClosed_share, here]
    simp only [List.mem_cons, Prod.mk.injEq, List.not_mem_nil, or_false] at row
    obtain ⟨rfl, rfl⟩ | ⟨rfl, rfl⟩ | ⟨rfl, rfl⟩ | ⟨rfl, rfl⟩ := row <;> rfl
  case read =>
    have allowed : Units.allow (Sfr.info .WDTE).units .byte = true := rfl
    have bits : Devices.bitOnWdte .byte .WDTE = false := rfl
    have value : d.readReg .WDTE = .next (d.readWdte, d) := rfl
    simp [Devices.sfrRead, Devices.regAt_wdte, bits, allowed, value, Devices.readWdte, on]

/-! ### A read-only register -/

/-- Settles O60: RESF is in every product, and the register list allows 8-bit accesses to it. -/
theorem readOnlyRegister : Obligations.ReadOnlyRegister := by
  intro d v
  have present : d.regAt 0xFFAC = some .RESF := Devices.regAt_addr (r := .RESF) rfl
  have allowed : Units.allow (Sfr.info .RESF).units .byte = true := rfl
  have bits : Devices.bitOnWdte .byte .RESF = false := rfl
  have write : d.writeByte .byte .RESF v = .next { d with noted := 0xFFAC :: d.noted } := rfl
  have read : d.readReg .RESF = .next (d.rd .RESF, d.wr .RESF 0) := rfl
  refine ⟨?_, d.wr .RESF 0, ?_, Devices.rd_wr_same _ _ _, fun r ne => Devices.rd_wr_other _ ne _⟩
  · simp only [Devices.sfrWrite, present, bits, allowed, write, if_true, Bool.false_eq_true, if_false]
  · simp only [Devices.sfrRead, present, bits, allowed, read, if_true, Bool.false_eq_true, if_false]

/-! ### Reads of the ports -/

/-- The bits of a byte made of its bits. -/
theorem getLsbD_ofBits (bs : List Bool) {n : Nat} (h : n < 8) : (ofBits bs).getLsbD n = bs.getD n false := by
  induction bs generalizing n with
  | nil => simp [ofBits]
  | cons b bs ih =>
    cases n with
    | zero => cases b <;> simp [ofBits]
    | succ n =>
      have := ih (n := n) (by omega)
      cases b <;> simp_all [ofBits]

/-- A bit of what a read of a port register gives. -/
theorem Devices.getLsbD_portRead (d : Devices) (m : Nat) {n : Nat} (h : n < 8) : (d.portRead m).getLsbD n = d.portBit m n := by
  rw [Devices.portRead, getLsbD_ofBits _ h]
  simp [List.getD_eq_getElem?_getD, List.getElem?_range h]

/-- Bits 7 to 4 are no bits of 0FH, and bits of FFH. -/
theorem getLsbD_high {n : Nat} (high : 4 ≤ n) (lt : n < 8) : (0x0F : Byte).getLsbD n = false ∧ (0xFF : Byte).getLsbD n = true := by
  obtain rfl | rfl | rfl | rfl : n = 4 ∨ n = 5 ∨ n = 6 ∨ n = 7 := by omega
  all_goals decide

/-- Ports 14 and 15 have no pins above bit 3, but latches (R776). -/
theorem keyScan_masks (s : Series) {m n : Nat} (row : m = 14 ∨ m = 15) (high : 4 ≤ n) (lt : n < 8) :
    (portMask s m).getLsbD n = false ∧ (latchMask s m).getLsbD n = true := by
  have pins : portMask s m = 0x0F := by obtain rfl | rfl := row <;> rfl
  rw [pins, latchMask, if_pos row]
  exact getLsbD_high high lt

/-- The bits of ports 14 and 15 above their pins read their latches (R776). -/
theorem Devices.portBit_keyScan {d : Devices} {m n : Nat} {r : Sfr} (port : portReg m = some r) (row : m = 14 ∨ m = 15)
    (high : 4 ≤ n) (lt : n < 8) : d.portBit m n = d.bit r n := by
  obtain ⟨noPin, latch⟩ := keyScan_masks d.series row high lt
  have not12 : (m == 12) = false := by obtain rfl | rfl := row <;> rfl
  simp only [Devices.portBit, Devices.outputMode, noPin, latch, not12, port, Devices.bitOf?, Bool.false_and, Bool.false_or,
    Bool.false_eq_true, if_false, if_true]

/-- A pin in input mode reads its level; P122 as the external clock input reads 0 (R452). -/
theorem Devices.portBit_input {d : Devices} {m n : Nat} (input : d.outputMode (m, n) = false)
    (pin : (portMask d.series m).getLsbD n = true ∨ (m = 12 ∧ 1 ≤ n ∧ n ≤ 4)) : d.portBit m n = d.pinRead (m, n) := by
  have read : ((portMask d.series m).getLsbD n || (m == 12 && 1 ≤ n && n ≤ 4)) = true := by
    obtain has | ⟨rfl, low, high⟩ := pin
    · rw [has, Bool.true_or]
    · simp [low, high]
  simp only [Devices.portBit, input, read, if_true, Bool.false_eq_true, if_false]

/-- A digital input that is not the external clock input reads what the outside world gives. -/
theorem Devices.pinRead_input {d : Devices} {p : Pin} (input : d.outputMode p = false) (lcd : d.lcdPin p = false)
    (opened : d.inputClosed p = false) (clock : ¬(p = (12, 2) ∧ d.fieldOf .OSCCTL 6 2 = 3)) : d.pinRead p = d.outsideLevel p := by
  simp only [Devices.pinRead, clock, Devices.pinLevel, lcd, input, opened, if_false, Bool.false_eq_true]

/-- A driven pin has the level that drives it. -/
theorem Devices.outsideLevel_driven {d : Devices} {m n : Nat} (driven : (Cells.read (fun _ => 0) d.env.driven m).getLsbD n = true) :
    d.outsideLevel (m, n) = (Cells.read (fun _ => 0) d.env.level m).getLsbD n := if_pos driven

/-- Bits 4 to 1 are no bits of 01H. -/
theorem getLsbD_one {n : Nat} (low : 1 ≤ n) (high : n ≤ 4) : (0x01 : Byte).getLsbD n = false := by
  obtain rfl | rfl | rfl | rfl : n = 1 ∨ n = 2 ∨ n = 3 ∨ n = 4 := by omega
  all_goals decide

/-- P121 to P124 are neither outputs nor LCD pins. -/
theorem Devices.port12_input (d : Devices) {n : Nat} (low : 1 ≤ n) (high : n ≤ 4) :
    d.outputMode (12, n) = false ∧ d.lcdPin (12, n) = false := by
  have noPin : (portMask d.series 12).getLsbD n = false := by
    rw [show portMask d.series 12 = 0x01 from rfl]
    exact getLsbD_one low high
  constructor
  · rw [Devices.outputMode, noPin, Bool.false_and]
  · have noSegment : pinSegment d.series (12, n) = none := by simp only [pinSegment, noPin, Bool.not_false, if_true]
    have not40 : ((12, n) == ((4, 0) : Pin)) = false := by simp
    rw [Devices.lcdPin, Devices.segmentAt, noSegment, not40]
    rfl

/-- Reading a port register changes nothing but that reading port 2 may disturb a conversion. -/
theorem Devices.readReg_port {d : Devices} {m : Nat} {r : Sfr} (port : portReg m = some r) :
    d.readReg r = .next (d.portRead m, if m = 2 then d.adcDisturb true else d) := by
  unfold portReg at port
  split at port <;> cases port <;> rfl

/-- Settles O58. -/
theorem portReads : Obligations.PortReads := by
  intro d m n r q port mode lt
  rw [d.getLsbD_portRead m lt]
  refine ⟨fun twelve low high => ?port12, fun row high => Devices.portBit_keyScan port row high lt, fun pin => ?pins⟩
  case port12 =>
    subst twelve
    obtain ⟨input, lcd⟩ := d.port12_input low high
    rw [Devices.portBit_input input (.inr ⟨rfl, low, high⟩)]
    refine ⟨fun external two => ?_, fun clock opened driven => ?_⟩
    · rw [two]
      exact if_pos ⟨rfl, external⟩
    · rw [Devices.pinRead_input input lcd opened fun ⟨e, external⟩ => clock ⟨external, congrArg Prod.snd e⟩,
        Devices.outsideLevel_driven driven]
  case pins =>
    have output : d.outputMode (m, n) = !d.bit q n := by
      simp only [Devices.outputMode, pin, mode, Devices.bitOf?, Bool.true_and]
    refine ⟨Devices.readReg_port port, fun out => ?latch, fun inp lcd opened => ?level⟩
    case latch => simp only [Devices.portBit, output, out, Bool.not_false, if_true, port, Devices.bitOf?]
    case level =>
      have input : d.outputMode (m, n) = false := by rw [output, inp]; rfl
      have clock : ¬((m, n) = (12, 2) ∧ d.fieldOf .OSCCTL 6 2 = 3) := by
        rintro ⟨e, -⟩
        cases e
        exact absurd (show (0x01 : Byte).getLsbD 2 = true from pin) (by decide)
      rw [Devices.portBit_input input (.inl pin), Devices.pinRead_input input lcd opened clock]
      refine ⟨Devices.outsideLevel_driven, fun p undriven pull on transmit => ?_⟩
      rw [Devices.outsideLevel, if_neg (undriven ▸ Bool.false_ne_true), transmit, pull]
      simp only [Devices.bitOf?, on, Bool.not_false, Bool.true_and, Bool.true_or]

/-! ### The interval timers -/

/-- The hidden state of a timer is no register. -/
@[simp] theorem Devices.rd_putTm5 (d : Devices) (i : Ch3) (t : Tm5) (r : Sfr) : (d.putTm5 i t).rd r = d.rd r := by
  cases i <;> rfl

/-- The counters are neither the request flags nor a control register of another timer. -/
theorem tm5Counter_ne (i : Ch3) : tm5Counter i ≠ flagReg ((tm5Source i).number / 8) ∧ Sfr.TMHMD1 ≠ tm5Counter i ∧
    Sfr.PRM00 ≠ tm5Counter i := by
  cases i <;> decide

/-- The mode of timer H1 is that of its registers. -/
theorem Devices.carrierMode_congr {d e : Devices} (h : e.rd .TMHMD1 = d.rd .TMHMD1) : e.carrierMode = d.carrierMode := by
  unfold Devices.carrierMode Devices.bit Devices.fieldOf
  rw [h]

/-- A match raises the interrupt of the timer, outside carrier generator mode for timer 51, and, where timer 52 does not clock
timer 00, does nothing else. -/
theorem Devices.tm5Hit_eq {d : Devices} {i : Ch3} (carrier : i = .n1 → d.carrierMode = false)
    (clocks : i = .n2 → d.fieldOf .PRM00 0 3 ≠ 7) : d.tm5Hit i = d.raise (tm5Source i) := by
  cases i with
  | n0 => rfl
  | n1 => simp [Devices.tm5Hit, Devices.tm5Match, Devices.tm51Match, carrier rfl, tm5Source]
  | n2 =>
    have same : (d.raise .tm52).fieldOf .PRM00 0 3 = d.fieldOf .PRM00 0 3 := by
      simp only [Devices.fieldOf, Devices.raise, Devices.putBit]
      rw [Devices.rd_wr_other _ (by decide)]
    simp [Devices.tm5Hit, Devices.tm5Match, tm5Source, same, clocks rfl]

/-- A count below the compare value. -/
theorem Devices.tm5Clock_below {d : Devices} {i : Ch3} (on : d.tm5On i = true) (plain : d.tm5Pwm i = false)
    (below : d.rd (tm5Counter i) ≠ d.rd (tm5Compare i)) :
    ∃ t, d.tm5Clock i = (d.putTm5 i t).wr (tm5Counter i) (d.rd (tm5Counter i) + 1) := by
  refine ⟨(d.tm5 i).buffer (d.rd (tm5Counter i)), ?_⟩
  rw [Devices.tm5Clock, if_pos on, if_neg (plain ▸ Bool.false_ne_true), Devices.tm5PlainClock,
    if_neg (mt beq_iff_eq.mp below)]

/-- A count at the compare value. -/
theorem Devices.tm5Clock_match {d : Devices} {i : Ch3} (on : d.tm5On i = true) (plain : d.tm5Pwm i = false)
    (equal : d.rd (tm5Counter i) = d.rd (tm5Compare i)) :
    ∃ t, d.tm5Clock i = ((d.putTm5 i t).wr (tm5Counter i) 0).tm5Hit i := by
  refine ⟨{ (d.tm5 i).buffer (d.rd (tm5Counter i)) with
    out := ((d.tm5 i).buffer (d.rd (tm5Counter i))).out != d.bit (tm5Control i) 1 }, ?_⟩
  rw [Devices.tm5Clock, if_pos on, if_neg (plain ▸ Bool.false_ne_true), Devices.tm5PlainClock, if_pos (beq_iff_eq.mpr equal)]

/-- Settles O59. -/
theorem intervalTimer : Obligations.IntervalTimer := by
  intro d i on plain c k
  obtain ⟨notFlag, notMode, notPrm⟩ := tm5Counter_ne i
  refine ⟨fun below => ?counts, fun equal carrier clocks => ?clears⟩
  case counts =>
    obtain ⟨t, counted⟩ := Devices.tm5Clock_below on plain below
    rw [counted]
    exact ⟨Devices.rd_wr_same _ _ _, fun r ne => (Devices.rd_wr_other _ ne _).trans (d.rd_putTm5 i t r)⟩
  case clears =>
    obtain ⟨t, cleared⟩ := Devices.tm5Clock_match on plain equal
    have other {r : Sfr} (ne : r ≠ c) : ((d.putTm5 i t).wr c 0).rd r = d.rd r :=
      (Devices.rd_wr_other _ ne _).trans (d.rd_putTm5 i t r)
    have hit : ((d.putTm5 i t).wr c 0).tm5Hit i = ((d.putTm5 i t).wr c 0).raise (tm5Source i) := by
      refine Devices.tm5Hit_eq (fun one => ?_) (fun two => ?_)
      · rw [Devices.carrierMode_congr (other notMode), carrier one]
      · rw [Devices.fieldOf, other notPrm]
        exact clocks two
    rw [cleared, hit]
    obtain ⟨flag, -, others, -⟩ := requestFlags ((d.putTm5 i t).wr c 0) (tm5Source i)
    exact ⟨(others c notFlag).trans (Devices.rd_wr_same _ _ _), flag, fun r ne neFlag => (others r neFlag).trans (other ne)⟩

end Sys2Proof.Machine
end
